-- ==== Sys2Proof/Config.lean ====
section
/-! DEFINITION. The free values: what the spec leaves open and no proof may know. They have no body. -/

namespace Sys2Proof

/-- FREE VALUE (log entry 3). Where several events fall due in one tick of the time base, the spec lets either be
taken first (R79, R87, R147). Draw number n says how far from the front the next due event is put. -/
opaque Config.eventOrder : Nat → Nat

/-- FREE VALUE (log entry 20). The measured rpm shown for a completed measurement whose count is 0, for the number of
periods SR: R79 divides by the count and states no result there. -/
opaque Config.zeroCountRpm : Nat → Nat

end Sys2Proof
end

