-- ==== Sys2Proof/Word.lean ====
section
/-! DEFINITION. The fixed widths in which the ports carry numbers (R163). -/

namespace Sys2Proof

/-- A byte of a frame, and a one-byte parameter (R159, R163). -/
abbrev Byte := BitVec 8

/-- A two-byte parameter, most significant byte first (R159, R163). -/
abbrev Word16 := BitVec 16

/-- A three-byte parameter; the elevator's counts are signed in this width (R116, R163). -/
abbrev Word24 := BitVec 24

/-- A four-byte parameter: serials, tags and wear (R163). -/
abbrev Word32 := BitVec 32

end Sys2Proof
end

