-- ==== Sys2Proof/Syntax.lean ====
section
/-! DEFINITION. The commands of the part: one constructor for each row of spec/opcode_table.json. -/

namespace Sys2Proof

/-- The four ports (10.3). The port a request arrives on is its first operand. -/
inductive Port where
  | cell | router | pick | magazine
  deriving DecidableEq, Repr

/-- A panel selector as it stands in a request body (R10, R163): a fixture letter, a panel serial, or a first byte
above 2, which names no record. -/
inductive Selector where
  | fixtureA
  | fixtureB
  | serial (value : Word32)
  | unnamed (first : Byte)
  deriving DecidableEq, Repr

/-- The section of CONSTANTS that a CONSTANTS_WRITE carries (R172 and the table of R163). The bytes of 0 after the
fields are ignored and carried by no operand. -/
inductive ConstantsSection where
  | magazineType (number slotCount : Byte) (pitch16 base : Word24) (tolerance : Word16)
  | spindle (sr band coarseStep : Byte) (kickDuty kickTimeout startDuty rampRate : Word16)
      (settleLimit missDepth stallDepth : Byte)
  | cell (homePreset : Word24) (parkDelay seatSettle : Word16) (hangLimit binCapacity : Byte)
  | unnamed (number : Byte)
  deriving DecidableEq, Repr

/-- The first samples of the input lines when a power-on or pin reset completes (R171, R173). true is a high line;
the guard is closed while its line is high (R150). -/
structure Lines where
  encoderA : Bool
  encoderB : Bool
  reference : Bool
  seat : Bool
  guard : Bool
  writeProtect : Bool
  deriving DecidableEq, Repr

/-- The commands. Operands stand in the order of R163's table and have its widths. -/
inductive Instr where
  | noop (port : Port)
  | takeEvent (port : Port)
  | setAttention (port : Port) (mask : Byte)
  | holdSet (port : Port)
  | holdClear (port : Port)
  | panelRead (port : Port) (record : Byte)
  | boardRead (port : Port) (panel : Selector) (board : Byte)
  | windowRead (port : Port)
  | pickRead (port : Port)
  | bitRead (port : Port)
  | spindleRead (port : Port)
  | magazineRead (port : Port) (part index : Byte)
  | registerRead (port : Port) (position : Byte)
  | encoderRead (port : Port) (slot : Byte)
  | insertRead (port : Port)
  | recipeOpen (port : Port) (slot boardCount : Byte) (rpm feed cutLimit : Word16)
  | recipeBoard (port : Port) (slot board rank height : Byte) (pickX pickY : Word16) (tabCount : Byte)
  | recipeTab (port : Port) (slot board tab role : Byte) (x y heading : Word16) (cutLength : Byte)
  | recipeClose (port : Port) (slot : Byte)
  | recipeErase (port : Port) (slot : Byte)
  | recipeRead (port : Port) (slot board tab : Byte)
  | panelStart (port : Port) (fixture slot : Byte) (serial : Word32) (xouts : List Byte)
  | panelAbort (port : Port) (panel : Selector)
  | panelResult (port : Port) (serial : Word32)
  | resolveTabUncut (port : Port) (panel : Selector) (board tab : Byte)
  | resolveTabCut (port : Port) (panel : Selector) (board tab : Byte)
  | divert (port : Port) (panel : Selector) (board : Byte)
  | bitChange (port : Port) (serial wear : Word32)
  | bitSetup (port : Port) (levels : Byte) (span : Word32) (baseDepth : Word16) (levelStep : Byte)
      (derateStart endOfLife : Word32) (minFeed : Word16)
  | spindleReset (port : Port)
  | resolveSlot (port : Port) (slot finding : Byte)
  | manifestRead (port : Port) (index : Byte)
  | manifestRelease (port : Port)
  | binEmptied (port : Port)
  | registerRepair (port : Port) (tag : Word32)
  | cellStart (port : Port)
  | cellPark (port : Port)
  | cellResume (port : Port)
  | cellStop (port : Port)
  | faultResponse (port : Port) (kind enable action latch : Byte)
  | faultClear (port : Port) (kind : Byte)
  | setLimits (port : Port) (hangLimit speedOverride feedOverride binCapacity : Byte)
  | statusRead (port : Port) (kind : Byte)
  | constantsWrite (port : Port) (fields : ConstantsSection)
  | storeSave (port : Port) (record : Byte)
  | cellReset (port : Port)
  | nextCut (port : Port)
  | cutDone (port : Port) (tag : Byte)
  | cutAbort (port : Port) (tag length : Byte)
  | claimNext (port : Port)
  | claim (port : Port) (serial : Word32) (board : Byte)
  | gripped (port : Port) (serial : Word32) (board : Byte)
  | release (port : Port) (serial : Word32) (board : Byte)
  | destination (port : Port) (serial : Word32) (board : Byte)
  | rejectPlaced (port : Port) (serial : Word32) (board : Byte)
  | insertBegin (port : Port) (serial : Word32) (board : Byte)
  | insertEndAborted (port : Port) (serial : Word32) (board : Byte)
  | insertEndSeated (port : Port) (serial : Word32) (board : Byte)
  | magLoaded (port : Port) (tag : Word32) (type : Byte)
  | magUnload (port : Port)
  | homeBegin (port : Port)
  | moveBegin (port : Port)
  | arrived (port : Port)
  | nextPosition (port : Port)
  /-- A falling edge of a port's select (R161). -/
  | selectFalls (port : Port)
  /-- A transaction ends with these bytes, which are no request that a block can be handed (R160, R162). -/
  | badLength (port : Port) (bytes : List Byte)
  /-- A transaction ends with a complete frame of this code, which names no request (R162). -/
  | unknownRequest (port : Port) (code : Byte)
  /-- A rising tach edge, so many time-base cycles after the measurement in progress last counted (R77; log entry 4). -/
  | tachEdge (cycles : Word16)
  | stallMeasurement
  | controlPeriod
  | kickTimeout
  | settle
  | grantExpiry
  | parkTimer
  | seatSettleTimeout
  /-- A sample of the encoder lines that differs from the last in one line (R116); the operands are the new A and B. -/
  | encoderTransition (a b : Bool)
  /-- A sample in which both encoder lines have changed (R117). -/
  | illegalTransition
  | referenceEdge
  | seatSensorEdge
  | guardOpens
  /-- The running store write ends; the operand says whether the read-back matches (R170). -/
  | storeWriteEnd (readBackMatches : Bool)
  | powerOn
  | pinReset
  /-- The start-up read ends and the lines are sampled for the first time (R171, R173). -/
  | startUpReadEnd (lines : Lines)
  | guardCloses
  deriving DecidableEq, Repr

end Sys2Proof
end

