-- ==== Sys2Proof/Decode.lean ====
section
/-! DEFINITION. The bytes of the ports: byte order, the request table of R163, the judgement of a transaction's bytes
(R160, R162), and the two directions between a request frame and the command it stands for. The opcode table gives no
row any bits, so decodeTableWord spells no command. -/

namespace Sys2Proof

/-! ### Byte order: most significant byte first (R159) -/

/-- The two bytes of a number. -/
def bytes16 (w : Word16) : List Byte := [w.extractLsb' 8 8, w.extractLsb' 0 8]

/-- The three bytes of a number; a signed number is in two's complement (R159). -/
def bytes24 (w : Word24) : List Byte := [w.extractLsb' 16 8, w.extractLsb' 8 8, w.extractLsb' 0 8]

/-- The four bytes of a number. -/
def bytes32 (w : Word32) : List Byte :=
  [w.extractLsb' 24 8, w.extractLsb' 16 8, w.extractLsb' 8 8, w.extractLsb' 0 8]

/-- The byte at place i of a body, 0 beyond its end. -/
def byteAt (body : List Byte) (i : Nat) : Byte := body.getD i 0

/-- The two-byte number at place i. -/
def word16At (body : List Byte) (i : Nat) : Word16 := byteAt body i ++ byteAt body (i + 1)

/-- The three-byte number at place i. -/
def word24At (body : List Byte) (i : Nat) : Word24 := byteAt body i ++ byteAt body (i + 1) ++ byteAt body (i + 2)

/-- The four-byte number at place i. -/
def word32At (body : List Byte) (i : Nat) : Word32 :=
  byteAt body i ++ byteAt body (i + 1) ++ byteAt body (i + 2) ++ byteAt body (i + 3)

/-- The five bytes of a panel selector (R163); the bytes after a fixture's are ignored, and sent as 0. -/
def Selector.bytes : Selector → List Byte
  | .fixtureA => [1, 0, 0, 0, 0]
  | .fixtureB => [2, 0, 0, 0, 0]
  | .serial v => 0 :: bytes32 v
  | .unnamed b => [b, 0, 0, 0, 0]

/-- The panel selector at place i (R163). -/
def selectorAt (body : List Byte) (i : Nat) : Selector :=
  if byteAt body i = 1 then .fixtureA
  else if byteAt body i = 2 then .fixtureB
  else if byteAt body i = 0 then .serial (word32At body (i + 1))
  else .unnamed (byteAt body i)

/-- The section byte of a CONSTANTS_WRITE (R172). -/
def ConstantsSection.number : ConstantsSection → Byte
  | .magazineType n _ _ _ _ => n
  | .spindle .. => 5
  | .cell .. => 6
  | .unnamed n => n

/-- The fields of a section in body order, without the section byte and the bytes of 0 after them (R163, R172). -/
def ConstantsSection.fieldBytes : ConstantsSection → List Byte
  | .magazineType _ count pitch base tolerance => count :: bytes24 pitch ++ bytes24 base ++ bytes16 tolerance
  | .spindle sr band coarse kickDuty kickTimeout startDuty rampRate settleLimit missDepth stallDepth =>
      [sr, band, coarse] ++ bytes16 kickDuty ++ bytes16 kickTimeout ++ bytes16 startDuty ++ bytes16 rampRate
        ++ [settleLimit, missDepth, stallDepth]
  | .cell preset parkDelay seatSettle hang bin =>
      bytes24 preset ++ bytes16 parkDelay ++ bytes16 seatSettle ++ [hang, bin]
  | .unnamed _ => []

/-- The body of a CONSTANTS_WRITE: 15 bytes, filled up with bytes of 0 (R163). -/
def ConstantsSection.bytes (f : ConstantsSection) : List Byte :=
  f.number :: f.fieldBytes ++ List.replicate (14 - f.fieldBytes.length) 0

/-- The section a CONSTANTS_WRITE body carries (R163). -/
def constantsSectionAt (body : List Byte) : ConstantsSection :=
  let n := byteAt body 0
  if n = 1 ∨ n = 2 ∨ n = 3 ∨ n = 4 then
    .magazineType n (byteAt body 1) (word24At body 2) (word24At body 5) (word16At body 8)
  else if n = 5 then
    .spindle (byteAt body 1) (byteAt body 2) (byteAt body 3) (word16At body 4) (word16At body 6) (word16At body 8)
      (word16At body 10) (byteAt body 12) (byteAt body 13) (byteAt body 14)
  else if n = 6 then
    .cell (word24At body 1) (word16At body 4) (word16At body 6) (byteAt body 8) (byteAt body 9)
  else .unnamed n

/-! ### The request table (10.3, R163) -/

/-- Which port may send a request (10.3). -/
inductive Access where
  | any
  | only (port : Port)
  deriving DecidableEq, Repr

/-- A row of the request table: who may send the request and how long its body is (R163). -/
structure RequestRow where
  access : Access
  body : Nat
  deriving DecidableEq, Repr

/-- The request table by code (10.3 and R163). PANEL_START's length is its shortest. A code the table does not list
names no request. -/
def requestRow : Nat → Option RequestRow
  | 0 => some ⟨.any, 0⟩ | 1 => some ⟨.any, 0⟩ | 2 => some ⟨.any, 1⟩ | 3 => some ⟨.any, 0⟩
  | 4 => some ⟨.any, 0⟩ | 5 => some ⟨.any, 1⟩ | 6 => some ⟨.any, 6⟩ | 7 => some ⟨.any, 0⟩
  | 8 => some ⟨.any, 0⟩ | 9 => some ⟨.any, 0⟩ | 10 => some ⟨.any, 0⟩ | 11 => some ⟨.any, 2⟩
  | 12 => some ⟨.any, 1⟩ | 13 => some ⟨.any, 1⟩ | 14 => some ⟨.any, 0⟩
  | 16 => some ⟨.only .cell, 8⟩ | 17 => some ⟨.only .cell, 9⟩ | 18 => some ⟨.only .cell, 11⟩
  | 19 => some ⟨.only .cell, 1⟩ | 20 => some ⟨.only .cell, 1⟩ | 21 => some ⟨.only .cell, 3⟩
  | 22 => some ⟨.only .cell, 6⟩ | 23 => some ⟨.only .cell, 5⟩ | 24 => some ⟨.only .cell, 4⟩
  | 25 => some ⟨.only .cell, 8⟩ | 26 => some ⟨.only .cell, 6⟩ | 27 => some ⟨.only .cell, 8⟩
  | 28 => some ⟨.only .cell, 18⟩ | 29 => some ⟨.only .cell, 0⟩ | 30 => some ⟨.only .cell, 2⟩
  | 31 => some ⟨.only .cell, 1⟩ | 32 => some ⟨.only .cell, 0⟩ | 33 => some ⟨.only .cell, 0⟩
  | 34 => some ⟨.only .cell, 4⟩ | 35 => some ⟨.only .cell, 0⟩ | 36 => some ⟨.only .cell, 0⟩
  | 37 => some ⟨.only .cell, 0⟩ | 38 => some ⟨.only .cell, 0⟩ | 39 => some ⟨.only .cell, 4⟩
  | 40 => some ⟨.only .cell, 1⟩ | 41 => some ⟨.only .cell, 4⟩ | 42 => some ⟨.only .cell, 1⟩
  | 43 => some ⟨.only .cell, 15⟩ | 44 => some ⟨.only .cell, 1⟩ | 45 => some ⟨.only .cell, 0⟩
  | 48 => some ⟨.only .router, 0⟩ | 49 => some ⟨.only .router, 1⟩ | 50 => some ⟨.only .router, 2⟩
  | 56 => some ⟨.only .pick, 0⟩ | 57 => some ⟨.only .pick, 5⟩ | 58 => some ⟨.only .pick, 5⟩
  | 59 => some ⟨.only .pick, 5⟩ | 60 => some ⟨.only .pick, 5⟩ | 61 => some ⟨.only .pick, 5⟩
  | 62 => some ⟨.only .pick, 5⟩ | 63 => some ⟨.only .pick, 6⟩
  | 72 => some ⟨.only .magazine, 5⟩ | 73 => some ⟨.only .magazine, 0⟩ | 74 => some ⟨.only .magazine, 0⟩
  | 75 => some ⟨.only .magazine, 0⟩ | 76 => some ⟨.only .magazine, 0⟩ | 77 => some ⟨.only .magazine, 0⟩
  | _ => none

/-- Whether a request that may come by this access belongs to this port (R162). -/
def Access.allows : Access → Port → Bool
  | .any, _ => true
  | .only q, p => q == p

/-- Whether a request of this code is taken on this port (R162). -/
def allowed (code : Byte) (p : Port) : Bool :=
  match requestRow code.toNat with
  | some row => row.access.allows p
  | none => false

/-- Whether a body has the length its request needs: one fixed length for every request but PANEL_START, which accepts
6 + x bytes for x in 0..24 (R162). -/
def lengthFits (code : Byte) (row : RequestRow) (n : Nat) : Bool :=
  if code = 22 then decide (6 ≤ n ∧ n ≤ 30) else decide (n = row.body)

/-! ### From a transaction's bytes to a command -/

/-- The request a complete frame of the right length stands for (R163). none where an enumerated parameter that picks
the row (the finding of RESOLVE_TAB, the ending of INSERT_END) names none of its values. -/
def decodeRequest (p : Port) (code : Byte) (body : List Byte) : Option Instr :=
  match code.toNat with
  | 0 => some (.noop p)
  | 1 => some (.takeEvent p)
  | 2 => some (.setAttention p (byteAt body 0))
  | 3 => some (.holdSet p)
  | 4 => some (.holdClear p)
  | 5 => some (.panelRead p (byteAt body 0))
  | 6 => some (.boardRead p (selectorAt body 0) (byteAt body 5))
  | 7 => some (.windowRead p)
  | 8 => some (.pickRead p)
  | 9 => some (.bitRead p)
  | 10 => some (.spindleRead p)
  | 11 => some (.magazineRead p (byteAt body 0) (byteAt body 1))
  | 12 => some (.registerRead p (byteAt body 0))
  | 13 => some (.encoderRead p (byteAt body 0))
  | 14 => some (.insertRead p)
  | 16 => some (.recipeOpen p (byteAt body 0) (byteAt body 1) (word16At body 2) (word16At body 4) (word16At body 6))
  | 17 => some (.recipeBoard p (byteAt body 0) (byteAt body 1) (byteAt body 2) (byteAt body 3) (word16At body 4)
      (word16At body 6) (byteAt body 8))
  | 18 => some (.recipeTab p (byteAt body 0) (byteAt body 1) (byteAt body 2) (byteAt body 3) (word16At body 4)
      (word16At body 6) (word16At body 8) (byteAt body 10))
  | 19 => some (.recipeClose p (byteAt body 0))
  | 20 => some (.recipeErase p (byteAt body 0))
  | 21 => some (.recipeRead p (byteAt body 0) (byteAt body 1) (byteAt body 2))
  | 22 => some (.panelStart p (byteAt body 0) (byteAt body 1) (word32At body 2) (body.drop 6))
  | 23 => some (.panelAbort p (selectorAt body 0))
  | 24 => some (.panelResult p (word32At body 0))
  | 25 =>
      if byteAt body 7 = 0 then some (.resolveTabUncut p (selectorAt body 0) (byteAt body 5) (byteAt body 6))
      else if byteAt body 7 = 1 then some (.resolveTabCut p (selectorAt body 0) (byteAt body 5) (byteAt body 6))
      else none
  | 26 => some (.divert p (selectorAt body 0) (byteAt body 5))
  | 27 => some (.bitChange p (word32At body 0) (word32At body 4))
  | 28 => some (.bitSetup p (byteAt body 0) (word32At body 1) (word16At body 5) (byteAt body 7) (word32At body 8)
      (word32At body 12) (word16At body 16))
  | 29 => some (.spindleReset p)
  | 30 => some (.resolveSlot p (byteAt body 0) (byteAt body 1))
  | 31 => some (.manifestRead p (byteAt body 0))
  | 32 => some (.manifestRelease p)
  | 33 => some (.binEmptied p)
  | 34 => some (.registerRepair p (word32At body 0))
  | 35 => some (.cellStart p)
  | 36 => some (.cellPark p)
  | 37 => some (.cellResume p)
  | 38 => some (.cellStop p)
  | 39 => some (.faultResponse p (byteAt body 0) (byteAt body 1) (byteAt body 2) (byteAt body 3))
  | 40 => some (.faultClear p (byteAt body 0))
  | 41 => some (.setLimits p (byteAt body 0) (byteAt body 1) (byteAt body 2) (byteAt body 3))
  | 42 => some (.statusRead p (byteAt body 0))
  | 43 => some (.constantsWrite p (constantsSectionAt body))
  | 44 => some (.storeSave p (byteAt body 0))
  | 45 => some (.cellReset p)
  | 48 => some (.nextCut p)
  | 49 => some (.cutDone p (byteAt body 0))
  | 50 => some (.cutAbort p (byteAt body 0) (byteAt body 1))
  | 56 => some (.claimNext p)
  | 57 => some (.claim p (word32At body 0) (byteAt body 4))
  | 58 => some (.gripped p (word32At body 0) (byteAt body 4))
  | 59 => some (.release p (word32At body 0) (byteAt body 4))
  | 60 => some (.destination p (word32At body 0) (byteAt body 4))
  | 61 => some (.rejectPlaced p (word32At body 0) (byteAt body 4))
  | 62 => some (.insertBegin p (word32At body 0) (byteAt body 4))
  | 63 =>
      if byteAt body 5 = 0 then some (.insertEndSeated p (word32At body 0) (byteAt body 4))
      else if byteAt body 5 = 1 then some (.insertEndAborted p (word32At body 0) (byteAt body 4))
      else none
  | 72 => some (.magLoaded p (word32At body 0) (byteAt body 4))
  | 73 => some (.magUnload p)
  | 74 => some (.homeBegin p)
  | 75 => some (.moveBegin p)
  | 76 => some (.arrived p)
  | 77 => some (.nextPosition p)
  | _ => none

/-- How the bytes of a transaction are judged (R160, R162), before the start-up read is looked at. -/
inductive FrameJudgement where
  /-- R160, orders 1 to 3: not a complete frame. -/
  | incomplete
  /-- R162: the code names no request. -/
  | unknown
  /-- R162: the body length is not the one the request needs; the flag says whether the port is the request's. -/
  | wrongLength (portFits : Bool)
  /-- R163: an enumerated parameter that picks the row names none of its values; the flag as above. -/
  | unnamedValue (portFits : Bool)
  /-- A request, to be handed on under R162's other checks. -/
  | request (i : Instr)
  deriving DecidableEq, Repr

/-- The judgement of a transaction's bytes (R160, R162). Bytes after a complete frame are ignored. -/
def judgeFrame (p : Port) : List Byte → FrameJudgement
  | [] => .incomplete
  | [_] => .incomplete
  | code :: n :: rest =>
      if 30 < n.toNat ∨ rest.length < n.toNat then .incomplete
      else
        match requestRow code.toNat with
        | none => .unknown
        | some row =>
            if lengthFits code row n.toNat then
              match decodeRequest p code (rest.take n.toNat) with
              | some i => .request i
              | none => .unnamedValue (row.access.allows p)
            else .wrongLength (row.access.allows p)

/-- The command that a transaction of these bytes is (R160 to R163): a request, an UNKNOWN_REQUEST, or a BAD_LENGTH that
carries the bytes, for a frame that reaches no block for another reason. -/
def decodeFrame (p : Port) (bytes : List Byte) : Instr :=
  match judgeFrame p bytes with
  | .request i => i
  | .unknown => .unknownRequest p (byteAt bytes 0)
  | .incomplete | .wrongLength _ | .unnamedValue _ => .badLength p bytes

/-! ### From a command to its request frame -/

/-- The port a request arrives on, its code and its body (R163). none for an event. -/
def Instr.request : Instr → Option (Port × Byte × List Byte)
  | .noop p => some (p, 0, [])
  | .takeEvent p => some (p, 1, [])
  | .setAttention p m => some (p, 2, [m])
  | .holdSet p => some (p, 3, [])
  | .holdClear p => some (p, 4, [])
  | .panelRead p r => some (p, 5, [r])
  | .boardRead p sel b => some (p, 6, sel.bytes ++ [b])
  | .windowRead p => some (p, 7, [])
  | .pickRead p => some (p, 8, [])
  | .bitRead p => some (p, 9, [])
  | .spindleRead p => some (p, 10, [])
  | .magazineRead p part i => some (p, 11, [part, i])
  | .registerRead p i => some (p, 12, [i])
  | .encoderRead p k => some (p, 13, [k])
  | .insertRead p => some (p, 14, [])
  | .recipeOpen p k n rpm feed limit => some (p, 16, [k, n] ++ bytes16 rpm ++ bytes16 feed ++ bytes16 limit)
  | .recipeBoard p k b rank h x y n => some (p, 17, [k, b, rank, h] ++ bytes16 x ++ bytes16 y ++ [n])
  | .recipeTab p k b t role x y heading len =>
      some (p, 18, [k, b, t, role] ++ bytes16 x ++ bytes16 y ++ bytes16 heading ++ [len])
  | .recipeClose p k => some (p, 19, [k])
  | .recipeErase p k => some (p, 20, [k])
  | .recipeRead p k b t => some (p, 21, [k, b, t])
  | .panelStart p f k serial xouts => some (p, 22, [f, k] ++ bytes32 serial ++ xouts)
  | .panelAbort p sel => some (p, 23, sel.bytes)
  | .panelResult p serial => some (p, 24, bytes32 serial)
  | .resolveTabUncut p sel b t => some (p, 25, sel.bytes ++ [b, t, 0])
  | .resolveTabCut p sel b t => some (p, 25, sel.bytes ++ [b, t, 1])
  | .divert p sel b => some (p, 26, sel.bytes ++ [b])
  | .bitChange p serial w => some (p, 27, bytes32 serial ++ bytes32 w)
  | .bitSetup p n span z0 d wd weol fmin =>
      some (p, 28, n :: bytes32 span ++ bytes16 z0 ++ d :: bytes32 wd ++ bytes32 weol ++ bytes16 fmin)
  | .spindleReset p => some (p, 29, [])
  | .resolveSlot p k finding => some (p, 30, [k, finding])
  | .manifestRead p i => some (p, 31, [i])
  | .manifestRelease p => some (p, 32, [])
  | .binEmptied p => some (p, 33, [])
  | .registerRepair p tag => some (p, 34, bytes32 tag)
  | .cellStart p => some (p, 35, [])
  | .cellPark p => some (p, 36, [])
  | .cellResume p => some (p, 37, [])
  | .cellStop p => some (p, 38, [])
  | .faultResponse p kind enable action latch => some (p, 39, [kind, enable, action, latch])
  | .faultClear p kind => some (p, 40, [kind])
  | .setLimits p hang speed feed bin => some (p, 41, [hang, speed, feed, bin])
  | .statusRead p kind => some (p, 42, [kind])
  | .constantsWrite p fields => some (p, 43, fields.bytes)
  | .storeSave p r => some (p, 44, [r])
  | .cellReset p => some (p, 45, [])
  | .nextCut p => some (p, 48, [])
  | .cutDone p tag => some (p, 49, [tag])
  | .cutAbort p tag len => some (p, 50, [tag, len])
  | .claimNext p => some (p, 56, [])
  | .claim p serial b => some (p, 57, bytes32 serial ++ [b])
  | .gripped p serial b => some (p, 58, bytes32 serial ++ [b])
  | .release p serial b => some (p, 59, bytes32 serial ++ [b])
  | .destination p serial b => some (p, 60, bytes32 serial ++ [b])
  | .rejectPlaced p serial b => some (p, 61, bytes32 serial ++ [b])
  | .insertBegin p serial b => some (p, 62, bytes32 serial ++ [b])
  | .insertEndSeated p serial b => some (p, 63, bytes32 serial ++ [b, 0])
  | .insertEndAborted p serial b => some (p, 63, bytes32 serial ++ [b, 1])
  | .magLoaded p tag type => some (p, 72, bytes32 tag ++ [type])
  | .magUnload p => some (p, 73, [])
  | .homeBegin p => some (p, 74, [])
  | .moveBegin p => some (p, 75, [])
  | .arrived p => some (p, 76, [])
  | .nextPosition p => some (p, 77, [])
  | .selectFalls _ => none
  | .badLength _ _ => none
  | .unknownRequest _ _ => none
  | .tachEdge _ => none
  | .stallMeasurement => none
  | .controlPeriod => none
  | .kickTimeout => none
  | .settle => none
  | .grantExpiry => none
  | .parkTimer => none
  | .seatSettleTimeout => none
  | .encoderTransition _ _ => none
  | .illegalTransition => none
  | .referenceEdge => none
  | .seatSensorEdge => none
  | .guardOpens => none
  | .storeWriteEnd _ => none
  | .powerOn => none
  | .pinReset => none
  | .startUpReadEnd _ => none
  | .guardCloses => none

/-- A request frame: the code, the body length and the body (R159). -/
def frameOf (code : Byte) (body : List Byte) : List Byte := code :: BitVec.ofNat 8 body.length :: body

/-- The port and the request frame of a request; none for an event (R159, R163). -/
def encodeFrame (i : Instr) : Option (Port × List Byte) :=
  i.request.map fun (p, code, body) => (p, frameOf code body)

/-- The command a table word spells. The opcode table gives no row any bits, so none does. -/
def decodeTableWord (_nbits _w : Nat) : Option Instr := none

end Sys2Proof
end

