-- ==== Sys2Proof/Machine/State.lean ====
section
/-! DEFINITION. The state of the part, block by block, as plain data; the reasons a step can stop; the state after
reset. Relations between fields are invariants (Safety.lean), not types. -/

namespace Sys2Proof.Machine

/-! ### Shared small types -/

/-- A running timer (R34, R84, R87, R141, R147): the milliseconds left, and the time-base cycles already counted in the
current millisecond. A timer that is not running is none where it stands. -/
structure Timer where
  ms : Nat
  us : Nat
  deriving DecidableEq, Repr

/-- A board across the cell: panel serial and board index (00, Conventions). -/
structure BoardId where
  serial : Nat
  board : Nat
  deriving DecidableEq, Repr

inductive Fixture where
  | a | b
  deriving DecidableEq, Repr

/-! ### Recipe table (R1) -/

/-- The header of a recipe (R1, R3); values are held as given and checked at RECIPE_CLOSE. -/
structure RecipeHeader where
  boardCount : Nat
  rpm : Nat
  feed : Nat
  cutLimit : Nat
  deriving DecidableEq, Repr

/-- A tab definition (R5). role is the byte as given: 0 FREE, 1 HOLD (R163). -/
structure TabDef where
  role : Nat
  x : Nat
  y : Nat
  heading : Nat
  cutLength : Nat
  deriving DecidableEq, Repr

/-- A board definition (R4). -/
structure BoardDef where
  rank : Nat
  height : Nat
  pickX : Nat
  pickY : Nat
  tabCount : Nat
  deriving DecidableEq, Repr

/-- What a recipe holds under one board index (R1): at most one board definition, and at most one tab definition under
each tab index 1..8 (place t - 1). -/
structure BoardItem where
  definition : Option BoardDef
  tabs : Vector (Option TabDef) 8
  deriving DecidableEq, Repr

/-- The contents of an OPEN or VALID slot: the item of board index i stands at place i - 1, and there is one for each
index 1..board count (R1, R4). -/
structure Recipe where
  header : RecipeHeader
  items : List BoardItem
  deriving DecidableEq, Repr

/-- A recipe slot (R1). -/
inductive RecipeSlot where
  | empty
  | opened (recipe : Recipe)
  | valid (recipe : Recipe)
  deriving DecidableEq, Repr

/-! ### Panel table (R9, R12 to R16) -/

/-- The state of a tab record (R14). -/
inductive TabState where
  | uncut | granted | cut | suspect
  deriving DecidableEq, Repr

/-- The state of a board (1.3, the board state table). -/
inductive BoardState where
  | cutting | hanging | claimed | held | loose | bound | inserting | verifying | stowed | rejected | lost | abandoned
  deriving DecidableEq, Repr

/-- Why a board awaits review (R19). -/
inductive ReviewReason where
  | suspectTab | seatDoubt
  deriving DecidableEq, Repr

/-- Where a bound board goes: its first slot, or the reject bin (R54, R55). -/
inductive Destination where
  | reject
  | slot (first : Nat)
  deriving DecidableEq, Repr

/-- A board record (R13); the state of tab t stands at place t - 1 of tabs. -/
structure Board where
  rank : Nat
  height : Nat
  xout : Bool
  state : BoardState
  freeUncut : Nat
  holdUncut : Nat
  review : Option ReviewReason
  destination : Option Destination
  divert : Bool
  tabs : List TabState
  deriving DecidableEq, Repr

/-- The state of a record that is not FREE; only an ACTIVE record has a fixture (1.2, R16). -/
inductive PanelState where
  | active (fixture : Fixture)
  | draining
  | finished
  deriving DecidableEq, Repr

/-- A panel record that is not FREE (R12); board i stands at place i - 1. -/
structure Panel where
  state : PanelState
  recipe : Fin 4
  serial : Nat
  boards : List Board
  stowed : Nat
  rejected : Nat
  lost : Nat
  abandoned : Nat
  deriving DecidableEq, Repr

/-- The panel table: record n stands at place n - 1, none is FREE; the start order names records, oldest first (R9). -/
structure PanelTable where
  records : Vector (Option Panel) 4
  startOrder : List (Fin 4)
  deriving DecidableEq, Repr

/-! ### Cut scheduler (R27, R32 to R34) -/

/-- A grant (2.5). hold is its role: false FREE, true HOLD. -/
structure Grant where
  tag : Nat
  serial : Nat
  fixture : Option Fixture
  board : Nat
  tab : Nat
  hold : Bool
  x : Nat
  y : Nat
  heading : Nat
  cutLength : Nat
  depth : Nat
  feed : Nat
  rpm : Nat
  live : Bool
  deriving DecidableEq, Repr

/-- The cut scheduler: the window oldest first, the expiry timer of its oldest grant, the tag counter, the hang limit in
force. -/
structure Scheduler where
  window : List Grant
  expiry : Option Timer
  tag : Nat
  hangLimit : Nat
  deriving DecidableEq, Repr

/-! ### Gripper tracker (R46, R48, R57) -/

/-- The reason of a destination wait (R57). -/
inductive DestinationWait where
  | binFull | noRoom
  deriving DecidableEq, Repr

structure Gripper where
  claim : Option BoardId
  queue : List BoardId
  wait : Option DestinationWait
  deriving DecidableEq, Repr

/-! ### Bit wear unit (R63, R66, R71) -/

/-- The seven bit parameters n, S, z0, d, Wd, Weol, Fmin (R63). -/
structure BitParams where
  levels : Nat
  span : Nat
  baseDepth : Nat
  levelStep : Nat
  derateStart : Nat
  endOfLife : Nat
  minFeed : Nat
  deriving DecidableEq, Repr

/-- The part of the bit record that is stored: serial, wear W and the parameters (R63). -/
structure BitRecord where
  serial : Nat
  wear : Nat
  params : BitParams
  deriving DecidableEq, Repr

structure BitUnit where
  record : BitRecord
  worn : Bool
  feedOverride : Nat
  deriving DecidableEq, Repr

/-! ### Spindle loop (R76 to R89) -/

inductive SpindleState where
  | stopped | kick | ramping | atSpeed | faulted
  deriving DecidableEq, Repr

/-- The measurement in progress (R77). -/
structure Measurement where
  count : Nat
  edges : Nat
  synchronised : Bool
  deriving DecidableEq, Repr

/-- The result of the last completed measurement, and whether it was a stall measurement (R78). -/
structure LastResult where
  count : Nat
  stall : Bool
  deriving DecidableEq, Repr

/-- The recorded cause of the last entry to FAULTED (R89). -/
inductive SpindleCause where
  | kickTimeout | settle | strain
  deriving DecidableEq, Repr

/-- The spindle loop. controlPhase is how many time-base cycles of the 10 ms control period have passed (R82). -/
structure Spindle where
  state : SpindleState
  duty : Nat
  recipeRpm : Nat
  override : Nat
  reference : Nat
  measurement : Option Measurement
  last : Option LastResult
  kickEdges : Nat
  strain : Nat
  miss : Nat
  kickTimer : Option Timer
  settleTimer : Option Timer
  cause : Option SpindleCause
  controlPhase : Nat
  deriving DecidableEq, Repr

/-! ### Magazine map (R96 to R112) -/

/-- A magazine type (R96): pitch16 in sixteenths of a count, base a signed 24-bit count. -/
structure MagType where
  slotCount : Nat
  pitch16 : Nat
  base : Word24
  tolerance : Nat
  deriving DecidableEq, Repr

/-- A register entry (R97); retired slots ascending. -/
structure RegisterEntry where
  tag : Nat
  type : Nat
  retired : List Nat
  condemned : Bool
  deriving DecidableEq, Repr

/-- The state of a slot with its board reference (6.3, R100). -/
inductive SlotState where
  | empty
  | reserved (board : BoardId)
  | filled (board : BoardId)
  | retired
  | doubt (board : BoardId)
  deriving DecidableEq, Repr

/-- A slot and its seat failure count (R107). -/
structure Slot where
  state : SlotState
  failures : Nat
  deriving DecidableEq, Repr

/-- A manifest entry (R104). -/
structure ManifestEntry where
  stow : Nat
  first : Nat
  height : Nat
  board : BoardId
  deriving DecidableEq, Repr

/-- The loaded session (R99); slot k stands at place k - 1. full is the full mark (R101). -/
structure Session where
  tag : Nat
  typeNumber : Nat
  type : MagType
  condemned : Bool
  slots : List Slot
  manifest : List ManifestEntry
  stow : Nat
  full : Option Nat
  deriving DecidableEq, Repr

/-- The closed manifest (R106). -/
structure ClosedManifest where
  tag : Nat
  typeNumber : Nat
  entries : List ManifestEntry
  deriving DecidableEq, Repr

/-- The magazine map: the working register (least recently used first, R97), the session, the closed manifest, the
reject bin (R110). -/
structure MagazineMap where
  register : List RegisterEntry
  session : Option Session
  closed : Option ClosedManifest
  binCount : Nat
  binCapacity : Nat
  deriving DecidableEq, Repr

/-! ### Elevator position unit (R116 to R126) -/

/-- The elevator position unit; captures older first. Whether ENCODER_ERROR is active stands in the fault table. -/
structure Elevator where
  counter : Word24
  homed : Bool
  armed : Bool
  captures : List Word24
  illegalCount : Nat
  deriving DecidableEq, Repr

/-! ### Insertion control (8.1, R131) -/

structure OpenInsertion where
  board : BoardId
  first : Nat
  height : Nat
  disturbed : Bool
  deriving DecidableEq, Repr

structure SettleWait where
  board : BoardId
  first : Nat
  height : Nat
  timer : Timer
  deriving DecidableEq, Repr

structure Insertion where
  permission : Bool
  confirmation : Option Nat
  insertion : Option OpenInsertion
  wait : Option SettleWait
  deriving DecidableEq, Repr

/-! ### Cell control (R144 to R154) -/

inductive CellState where
  | unconfigured | standby | run | hold | park
  deriving DecidableEq, Repr

/-- The hold set, one flag a member (R145). -/
structure HoldSet where
  cell : Bool
  router : Bool
  pick : Bool
  magazine : Bool
  fault : Bool
  deriving DecidableEq, Repr

/-- The twelve fault kinds, in the order of their numbers (9.4). -/
inductive FaultKind where
  | spindleFault | bitWorn | grantExpired | boardDropped | encoderError | captureOverflow | seatDoubt | seatMismatch
  | slotRetired | magazineCondemned | storeFailure | rejectFull
  deriving DecidableEq, Repr

inductive FaultAction where
  | note | hold | park
  deriving DecidableEq, Repr

/-- A fault table entry (R153). -/
structure FaultEntry where
  enabled : Bool
  action : FaultAction
  latch : Bool
  count : Nat
  active : Bool
  latched : Bool
  deriving DecidableEq, Repr

/-- Cell control; the entry of kind number n stands at place n - 1 (R153). -/
structure CellControl where
  state : CellState
  holds : HoldSet
  parkTimer : Option Timer
  faults : Vector FaultEntry 12
  lastRaised : Option FaultKind
  deriving DecidableEq, Repr

/-! ### Ports (R159 to R168) -/

/-- The reason of a WAIT, in the order of outcome bytes 16..22 (R162). -/
inductive WaitReason where
  | notRun | spindle | bitWorn | windowFull | nothingEligible | binFull | noRoom
  deriving DecidableEq, Repr

/-- The reason of a REFUSED, in the order of outcome bytes 32..49 (R162). -/
inductive RefusedReason where
  | unknownRequest | wrongPort | badLength | outOfRange | wrongState | busy | inUse | tableFull | hangFull
  | limitBelowUse | outOfOrder | late | offTarget | notHomed | guardOpen | manifestPending | protectedStore | starting
  deriving DecidableEq, Repr

/-- The outcome of a request (R162). -/
inductive Verdict where
  | accepted
  | wait (reason : WaitReason)
  | refused (reason : RefusedReason)
  deriving DecidableEq, Repr

/-- A pending answer: echoed code, outcome, body (R161). -/
structure Answer where
  echo : Byte
  verdict : Verdict
  body : List Byte
  deriving DecidableEq, Repr

/-- An answer frame as loaded at a falling edge of select: the answer and the attention summary (R159, R161). -/
structure AnswerFrame where
  answer : Answer
  summary : Nat
  deriving DecidableEq, Repr

/-- A port's select: high; low in a transaction, with its answer frame; or low since before a power-on or pin reset, in
which case the port waits for it to rise and fall again (R159, R167). -/
inductive SelectLine where
  | idle
  | transaction (frame : AnswerFrame)
  | ignored
  deriving DecidableEq, Repr

/-- A port: pending answer (R161), select, event set and enable set as masks in which the bit of value 2^(i - 1) is
kind i (R164, R166). -/
structure PortState where
  answer : Option Answer
  line : SelectLine
  events : Byte
  enabled : Byte
  deriving DecidableEq, Repr

structure Ports where
  cell : PortState
  router : PortState
  pick : PortState
  magazine : PortState
  deriving DecidableEq, Repr

/-! ### Constants and settings store (R169 to R173) -/

/-- The spindle constants (5.6): times in ms for the kick timeout and in s for the settle limit. -/
structure SpindleConstants where
  sr : Nat
  band : Nat
  coarseStep : Nat
  kickDuty : Nat
  kickTimeout : Nat
  startDuty : Nat
  rampRate : Nat
  settleLimit : Nat
  missDepth : Nat
  stallDepth : Nat
  deriving DecidableEq, Repr

/-- The CONSTANTS record (R169): type n stands at place n - 1; park delay in s, seat settle time in ms. -/
structure Constants where
  types : Vector MagType 4
  spindle : SpindleConstants
  homePreset : Word24
  parkDelay : Nat
  seatSettle : Nat
  defaultHangLimit : Nat
  defaultBinCapacity : Nat
  deriving DecidableEq, Repr

/-- A record of the store (R169): its validity marker and its contents, which mean nothing without the marker. -/
structure Stored (α : Type) where
  marker : Bool
  contents : α
  deriving DecidableEq, Repr

inductive RecordId where
  | constants | bit | register
  deriving DecidableEq, Repr

/-- The last outcome of a record's writes (R169). -/
inductive SaveOutcome where
  | none | done | failed
  deriving DecidableEq, Repr

/-- What the store holds beside a record (R169), and whether the record was found valid at the last start-up read
(R171). -/
structure SaveFlags where
  pending : Bool
  explicit : Bool
  outcome : SaveOutcome
  foundValid : Bool
  deriving DecidableEq, Repr

/-- The running write: its record, and whether it carries an explicit mark (R170). -/
structure StoreWrite where
  record : RecordId
  explicit : Bool
  deriving DecidableEq, Repr

structure Store where
  constants : Stored Constants
  bit : Stored BitRecord
  register : Stored (List RegisterEntry)
  constantsFlags : SaveFlags
  bitFlags : SaveFlags
  registerFlags : SaveFlags
  writing : Option StoreWrite
  writeProtect : Bool
  deriving DecidableEq, Repr

/-! ### The whole part -/

/-- The sampled input lines at their last sample; true is high, and the guard is closed while its line is high (R116,
R120, R126, R150). -/
structure LineLevels where
  encoderA : Bool
  encoderB : Bool
  reference : Bool
  seat : Bool
  guard : Bool
  deriving DecidableEq, Repr

/-- The state of the part. constants is the working copy of CONSTANTS; the working bit record stands in bit and the
working register in magazine (R169). starting says that the start-up read runs (R173). pending is the queue of commands,
the front first. freeIndex is the model's own: how many free values the ticks have drawn (log entry 3). -/
structure State where
  recipes : Vector RecipeSlot 4
  panels : PanelTable
  scheduler : Scheduler
  gripper : Gripper
  bit : BitUnit
  spindle : Spindle
  magazine : MagazineMap
  elevator : Elevator
  insertion : Insertion
  cell : CellControl
  ports : Ports
  constants : Constants
  store : Store
  lines : LineLevels
  starting : Bool
  pending : List Instr
  freeIndex : Nat
  deriving DecidableEq, Repr

/-- Reasons to stop with a fault. The spec gives none: every fault kind of the part is an entry of its fault table, and
the part goes on (R154). Nothing raises one; safe. -/
inductive Fault where
  deriving DecidableEq, Repr

/-- Reasons to answer no next state. -/
inductive Refusal where
  /-- A row of the table without a meaning; no arm of exec answers it. Safe. -/
  | notModelled (mnemonic : String)
  /-- Raised by BAD_LENGTH and UNKNOWN_REQUEST on an ill-formed term: bytes that are a request, or a code that names one
  (Instr.wellFormed refuses both). Safe: the term is no event of its row. -/
  | notThisCommand
  deriving DecidableEq, Repr

/-! ### Reset -/

/-- The built-in magazine type (6.1). -/
def MagType.builtIn : MagType := { slotCount := 20, pitch16 := 12800, base := 8000, tolerance := 120 }

/-- The built-in spindle constants (5.6). -/
def SpindleConstants.builtIn : SpindleConstants :=
  { sr := 2, band := 8, coarseStep := 16, kickDuty := 300, kickTimeout := 1000, startDuty := 200, rampRate := 200,
    settleLimit := 5, missDepth := 3, stallDepth := 4 }

/-- The built-in constants (R27, R96, R110, R118, R140, R147). -/
def Constants.builtIn : Constants :=
  { types := Vector.replicate 4 MagType.builtIn, spindle := SpindleConstants.builtIn, homePreset := 0, parkDelay := 60,
    seatSettle := 100, defaultHangLimit := 3, defaultBinCapacity := 20 }

/-- The bit record after an invalid BIT record (R64). -/
def BitRecord.builtIn : BitRecord :=
  { serial := 0, wear := 0,
    params := { levels := 3, span := 100000, baseDepth := 100, levelStep := 50, derateStart := 1000000,
                endOfLife := 2000000, minFeed := 100 } }

/-- A fault table entry with its default response (9.4), not counted, not active, not latched. -/
def FaultEntry.fresh (action : FaultAction) (latch : Bool) : FaultEntry :=
  { enabled := true, action := action, latch := latch, count := 0, active := false, latched := false }

/-- The default responses (9.4, R153). -/
def defaultFaults : Vector FaultEntry 12 :=
  #v[.fresh .park true, .fresh .hold false, .fresh .hold true, .fresh .park true, .fresh .note true, .fresh .note true,
     .fresh .note true, .fresh .note true, .fresh .note false, .fresh .note true, .fresh .note true, .fresh .note false]

/-- No member holds. -/
def HoldSet.empty : HoldSet := { cell := false, router := false, pick := false, magazine := false, fault := false }

/-- The flags of a record after power-on and pin reset (R169). -/
def SaveFlags.clear : SaveFlags := { pending := false, explicit := false, outcome := .none, foundValid := false }

/-- A port after reset, with these kinds pending and all of its kinds enabled (R167). -/
def PortState.fresh (events enabled : Byte) : PortState :=
  { answer := none, line := .idle, events := events, enabled := enabled }

/-- The spindle loop after every reset (R95). -/
def Spindle.reset : Spindle :=
  { state := .stopped, duty := 0, recipeRpm := 6000, override := 100, reference := 6000, measurement := none,
    last := none, kickEdges := 0, strain := 0, miss := 0, kickTimer := none, settleTimer := none, cause := none,
    controlPhase := 0 }

/-- A store that was never written (log entry 9). -/
def Store.blank : Store :=
  { constants := { marker := false, contents := Constants.builtIn }, bit := { marker := false, contents := BitRecord.builtIn },
    register := { marker := false, contents := [] }, constantsFlags := .clear, bitFlags := .clear,
    registerFlags := .clear, writing := none, writeProtect := false }

/-- The part when power-on has completed with a blank store, every select and sampled line at rest and the guard closed
(R173; the levels and the blank store are log entry 9). Built-in values stand in every working copy, the cell is
UNCONFIGURED, and RESET_DONE is pending on every port, with HOMING_NEEDED on the magazine port (R122, R167). -/
def State.reset : State :=
  { recipes := Vector.replicate 4 .empty
    panels := { records := Vector.replicate 4 none, startOrder := [] }
    scheduler := { window := [], expiry := none, tag := 1, hangLimit := 3 }
    gripper := { claim := none, queue := [], wait := none }
    bit := { record := BitRecord.builtIn, worn := false, feedOverride := 100 }
    spindle := Spindle.reset
    magazine := { register := [], session := none, closed := none, binCount := 0, binCapacity := 20 }
    elevator := { counter := 0, homed := false, armed := false, captures := [], illegalCount := 0 }
    insertion := { permission := false, confirmation := none, insertion := none, wait := none }
    cell := { state := .unconfigured, holds := .empty, parkTimer := none, faults := defaultFaults, lastRaised := none }
    ports := { cell := .fresh 1 63, router := .fresh 1 15, pick := .fresh 1 63, magazine := .fresh 3 31 }
    constants := Constants.builtIn
    store := Store.blank
    lines := { encoderA := false, encoderB := false, reference := false, seat := false, guard := true }
    starting := false
    pending := []
    freeIndex := 0 }

end Sys2Proof.Machine
end

