-- ==== Sys2Proof/Machine/Operands.lean ====
section
/-! DEFINITION. What an operand names: places counted from 1, recipe slots and panel records by number, panels by
selector, boards and tabs within a panel, fault kinds by number; and the updates of what was named. -/

namespace Sys2Proof.Machine

/-- The entry at place i of a list numbered from 1 (00, Indices). -/
def nth1 {α : Type} (l : List α) (i : Nat) : Option α := if i = 0 then none else l[i - 1]?

/-- The list with its entry at place i, numbered from 1, changed by f. -/
def modify1 {α : Type} (l : List α) (i : Nat) (f : α → α) : List α := if i = 0 then l else l.modify (i - 1) f

/-- The place that a number in 1..4 names (recipe slots R3, panel records R22, magazine types R96). -/
def fin4 (n : Nat) : Option (Fin 4) := if h : 1 ≤ n ∧ n ≤ 4 then some ⟨n - 1, by omega⟩ else none

/-- The number 1..4 of a place. -/
def number4 (i : Fin 4) : Nat := i.val + 1

/-- The panel records in the order of their numbers. -/
def allRecords : List (Fin 4) := [0, 1, 2, 3]

/-- The fixture a fixture parameter names: 1 for A and 2 for B (R163). -/
def fixtureOf (b : Byte) : Option Fixture := if b = 1 then some .a else if b = 2 then some .b else none

/-! ### Recipes -/

/-- The contents of a recipe slot, if it is OPEN or VALID (R1). -/
def RecipeSlot.contents : RecipeSlot → Option Recipe
  | .empty => none
  | .opened r => some r
  | .valid r => some r

/-- The item of a board index (R1). -/
def Recipe.item (r : Recipe) (b : Nat) : Option BoardItem := nth1 r.items b

/-- The board definition under an index (R4). -/
def Recipe.board (r : Recipe) (b : Nat) : Option BoardDef := (r.item b).bind (·.definition)

/-- The tab definition under a tab index of an item (R5). -/
def BoardItem.tab (item : BoardItem) (t : Nat) : Option TabDef := (nth1 item.tabs.toList t).join

/-- The tab definition under a board and a tab index (R5). -/
def Recipe.tab (r : Recipe) (b t : Nat) : Option TabDef := (r.item b).bind (·.tab t)

/-- An index with nothing defined under it (R1). -/
def BoardItem.blank : BoardItem := { definition := none, tabs := Vector.replicate 8 none }

/-! ### Panels and boards -/

/-- The first non-FREE record that a test holds of. -/
def State.findRecord (s : State) (test : Panel → Bool) : Option (Fin 4) :=
  allRecords.find? fun i => (s.panels.records[i]).any test

/-- The non-FREE record that carries a serial (R10). -/
def State.recordOfSerial (s : State) (serial : Nat) : Option (Fin 4) := s.findRecord (·.serial == serial)

/-- The ACTIVE record on a fixture (R10). -/
def State.recordOnFixture (s : State) (f : Fixture) : Option (Fin 4) := s.findRecord (·.state == .active f)

/-- The record a panel selector names (R10, R163). -/
def State.selected (s : State) : Selector → Option (Fin 4)
  | .fixtureA => s.recordOnFixture .a
  | .fixtureB => s.recordOnFixture .b
  | .serial v => s.recordOfSerial v.toNat
  | .unnamed _ => none

/-- A board found in the panel table. -/
structure Located where
  record : Fin 4
  panel : Panel
  index : Nat
  board : Board
  deriving DecidableEq, Repr

/-- The name of a located board across the cell. -/
def Located.id (l : Located) : BoardId := { serial := l.panel.serial, board := l.index }

/-- Board b of a record, if the record is not FREE and b lies in 1..board count (R10). -/
def State.locate (s : State) (i : Fin 4) (b : Nat) : Option Located :=
  (s.panels.records[i]).bind fun p => (nth1 p.boards b).map fun board => { record := i, panel := p, index := b, board := board }

/-- The board that a serial and an index name (R10, R49). -/
def State.locateId (s : State) (id : BoardId) : Option Located :=
  (s.recordOfSerial id.serial).bind fun i => s.locate i id.board

/-- The board that a selector and an index name (R10). -/
def State.locateSelected (s : State) (sel : Selector) (b : Nat) : Option Located :=
  (s.selected sel).bind fun i => s.locate i b

/-- The recipe a panel was started from (R2): its slot cannot change while the panel names it. -/
def State.recipeOf (s : State) (p : Panel) : Option Recipe := (s.recipes[p.recipe]).contents

/-- The definition of a tab of a panel, read from its recipe (1.3). -/
def State.tabDef (s : State) (p : Panel) (b t : Nat) : Option TabDef := (s.recipeOf p).bind (·.tab b t)

/-- Whether a tab of a panel has role HOLD; any other role is FREE (R5, R6). -/
def State.isHold (s : State) (p : Panel) (b t : Nat) : Bool := (s.tabDef p b t).any (·.role == 1)

/-- A record replaced. -/
def State.setRecord (s : State) (i : Fin 4) (p : Option Panel) : State :=
  { s with panels := { s.panels with records := s.panels.records.set i p } }

/-- A non-FREE record changed; a FREE one stays FREE. -/
def State.modifyPanel (s : State) (i : Fin 4) (f : Panel → Panel) : State :=
  s.setRecord i ((s.panels.records[i]).map f)

/-- Board b of a panel changed. -/
def Panel.modifyBoard (p : Panel) (b : Nat) (f : Board → Board) : Panel := { p with boards := modify1 p.boards b f }

/-- Board b of a record changed. -/
def State.modifyBoard (s : State) (i : Fin 4) (b : Nat) (f : Board → Board) : State :=
  s.modifyPanel i (·.modifyBoard b f)

/-- A tab record changed to a state (R14). -/
def Board.setTab (board : Board) (t : Nat) (st : TabState) : Board := { board with tabs := modify1 board.tabs t fun _ => st }

/-! ### Fault kinds and responses -/

/-- The place of a kind in the fault table (9.4). -/
def FaultKind.place : FaultKind → Fin 12
  | .spindleFault => 0 | .bitWorn => 1 | .grantExpired => 2 | .boardDropped => 3 | .encoderError => 4
  | .captureOverflow => 5 | .seatDoubt => 6 | .seatMismatch => 7 | .slotRetired => 8 | .magazineCondemned => 9
  | .storeFailure => 10 | .rejectFull => 11

/-- The kinds in the order of their numbers. -/
def allFaults : List FaultKind :=
  [.spindleFault, .bitWorn, .grantExpired, .boardDropped, .encoderError, .captureOverflow, .seatDoubt, .seatMismatch,
   .slotRetired, .magazineCondemned, .storeFailure, .rejectFull]

/-- The kind number 1..12 (9.4). -/
def FaultKind.number (k : FaultKind) : Nat := k.place.val + 1

/-- The kind a number names (R155). -/
def faultOf (n : Nat) : Option FaultKind := nth1 allFaults n

/-- A persistent kind is active while its condition holds; the others are momentary (9.4). -/
def FaultKind.persistent : FaultKind → Bool
  | .spindleFault => true | .bitWorn => true | .encoderError => true | .rejectFull => true
  | .grantExpired => false | .boardDropped => false | .captureOverflow => false | .seatDoubt => false
  | .seatMismatch => false | .slotRetired => false | .magazineCondemned => false | .storeFailure => false

/-- The action a byte names, numbered from 0 (R163). -/
def actionOf (b : Byte) : Option FaultAction :=
  if b = 0 then some .note else if b = 1 then some .hold else if b = 2 then some .park else none

/-- The fault table entry of a kind (R153). -/
def State.fault (s : State) (k : FaultKind) : FaultEntry := s.cell.faults[k.place]

/-- The fault table entry of a kind changed. -/
def State.modifyFault (s : State) (k : FaultKind) (f : FaultEntry → FaultEntry) : State :=
  { s with cell := { s.cell with faults := s.cell.faults.set k.place (f (s.fault k)) } }

/-! ### Ports and store records -/

/-- The state of a port. -/
def Ports.get (ps : Ports) : Port → PortState
  | .cell => ps.cell
  | .router => ps.router
  | .pick => ps.pick
  | .magazine => ps.magazine

/-- The state of a port replaced. -/
def Ports.set (ps : Ports) (p : Port) (v : PortState) : Ports :=
  match p with
  | .cell => { ps with cell := v }
  | .router => { ps with router := v }
  | .pick => { ps with pick := v }
  | .magazine => { ps with magazine := v }

/-- The state of a port of the part. -/
def State.port (s : State) (p : Port) : PortState := s.ports.get p

/-- A port of the part changed. -/
def State.modifyPort (s : State) (p : Port) (f : PortState → PortState) : State :=
  { s with ports := s.ports.set p (f (s.port p)) }

/-- What the store holds beside a record (R169). -/
def Store.flags (st : Store) : RecordId → SaveFlags
  | .constants => st.constantsFlags
  | .bit => st.bitFlags
  | .register => st.registerFlags

/-- What the store holds beside a record, replaced. -/
def Store.setFlags (st : Store) (r : RecordId) (f : SaveFlags) : Store :=
  match r with
  | .constants => { st with constantsFlags := f }
  | .bit => { st with bitFlags := f }
  | .register => { st with registerFlags := f }

/-- The record a STORE_SAVE names: 1 CONSTANTS, 2 BIT, 3 REGISTER (R171). -/
def recordIdOf (n : Nat) : Option RecordId :=
  if n = 1 then some .constants else if n = 2 then some .bit else if n = 3 then some .register else none

/-- The number of a store record (R171). -/
def RecordId.number : RecordId → Nat
  | .constants => 1
  | .bit => 2
  | .register => 3

end Sys2Proof.Machine
end

