-- ==== Sys2Proof/Machine/Flags.lean ====
section
/-! DEFINITION. What the part computes from its state: board conditions, the served panel and the choice of a tab, the
hang budget, cutting permission, depth and feed, the spindle's target, slot positions and runs, readiness of the slot,
the FAULT member, the attention line. None of these changes anything. -/

namespace Sys2Proof.Machine

/-- Clamped to lo..hi (00, Arithmetic). -/
def clamp (lo hi x : Nat) : Nat := if x < lo then lo else if hi < x then hi else x

/-! ### Boards (R15, R19) -/

/-- Attached: still joined to the fixture or to the claim on it (R15). -/
def BoardState.attached : BoardState → Bool
  | .cutting | .hanging | .claimed | .held => true
  | .loose | .bound | .inserting | .verifying | .stowed | .rejected | .lost | .abandoned => false

/-- Terminal (R15). -/
def BoardState.terminal : BoardState → Bool
  | .stowed | .rejected | .lost | .abandoned => true
  | .cutting | .hanging | .claimed | .held | .loose | .bound | .inserting | .verifying => false

/-- The states in which the pick claim names the board (R46). -/
def BoardState.onClaim : BoardState → Bool
  | .claimed | .held | .loose | .bound | .inserting => true
  | .cutting | .hanging | .verifying | .stowed | .rejected | .lost | .abandoned => false

/-- Flagged: its review reason is present (R19). -/
def Board.flagged (board : Board) : Bool := board.review.isSome

/-- Whether a record is ACTIVE (R16). -/
def PanelState.isActive : PanelState → Bool
  | .active _ => true
  | .draining | .finished => false

/-- The fixture of a record: one while ACTIVE, none in every other state (1.2). -/
def PanelState.fixture : PanelState → Option Fixture
  | .active f => some f
  | .draining | .finished => none

/-! ### Choosing a tab (R23, R26, R28, R29) -/

/-- The tabs of a board that have a role, with their indices and states, ascending. -/
def State.tabsOf (s : State) (p : Panel) (b : Nat) (board : Board) (hold : Bool) : List (Nat × TabState) :=
  (board.tabs.zipIdx 1).filterMap fun (st, t) => if s.isHold p b t == hold then some (t, st) else none

/-- The indices of a board's UNCUT tabs of a role, ascending. -/
def State.uncutTabs (s : State) (p : Panel) (b : Nat) (board : Board) (hold : Bool) : List Nat :=
  ((s.tabsOf p b board hold).filter (·.2 == .uncut)).map (·.1)

/-- Hang-committed (R26): HANGING, CLAIMED or HELD, or CUTTING with no free tab UNCUT. -/
def State.isCommitted (s : State) (p : Panel) (b : Nat) (board : Board) : Bool :=
  match board.state with
  | .hanging | .claimed | .held => true
  | .cutting => (s.uncutTabs p b board false).isEmpty
  | .loose | .bound | .inserting | .verifying | .stowed | .rejected | .lost | .abandoned => false

/-- How many boards of a panel are hang-committed. -/
def State.committedIn (s : State) (p : Panel) : Nat :=
  ((p.boards.zipIdx 1).filter fun (board, b) => s.isCommitted p b board).length

/-- The hang-committed count, over all panel records (R26). -/
def State.hangCommitted (s : State) : Nat :=
  (allRecords.map fun i => match s.panels.records[i] with
    | some p => s.committedIn p
    | none => 0).sum

/-- A panel that can be served: ACTIVE, with a tab UNCUT or GRANTED (R23). -/
def Panel.servable (p : Panel) : Bool :=
  p.state.isActive && p.boards.any fun board => board.tabs.any fun st => st == .uncut || st == .granted

/-- The served panel: the oldest servable record of the start order (R23). -/
def State.servedPanel (s : State) : Option (Fin 4) :=
  s.panels.startOrder.find? fun i => (s.panels.records[i]).any (·.servable)

/-- A tab chosen for a grant. -/
structure Choice where
  record : Fin 4
  panel : Panel
  board : Nat
  tab : Nat
  hold : Bool
  deriving DecidableEq, Repr

/-- The hold-tab pass over a panel (R28): the HELD board, if it is not flagged, and its first UNCUT hold tab. -/
def State.holdPass (s : State) (p : Panel) : Option (Nat × Nat) :=
  match (p.boards.zipIdx 1).find? fun (board, _) => board.state == .held with
  | some (board, b) => if board.flagged then none else ((s.uncutTabs p b board true).head?).map fun t => (b, t)
  | none => none

/-- The first eligible free tab of a board (R29): its first UNCUT free tab, but its last one only below the hang limit. -/
def State.eligibleFree (s : State) (p : Panel) (b : Nat) (board : Board) : Option Nat :=
  if board.state == .cutting && !board.flagged then
    match s.uncutTabs p b board false with
    | [] => none
    | [t] => if s.hangCommitted < s.scheduler.hangLimit then some t else none
    | t :: _ :: _ => some t
  else none

/-- Of two candidates (rank, board, tab), the one that comes first by rank and then by board index; the first argument
has the lower index. -/
def earlier (best : Option (Nat × Nat × Nat)) (next : Nat × Nat × Nat) : Option (Nat × Nat × Nat) :=
  match best with
  | none => some next
  | some c => if next.1 < c.1 then some next else some c

/-- The free-tab pass over a panel (R29): the first eligible free tab in the order of rank, board index, tab index. -/
def State.freePass (s : State) (p : Panel) : Option (Nat × Nat) :=
  let candidates := (p.boards.zipIdx 1).filterMap fun (board, b) =>
    (s.eligibleFree p b board).map fun t => (board.rank, b, t)
  (candidates.foldl earlier none).map (·.2)

/-- The tab a NEXT_CUT would be granted, cutting permitted and the window open (R28 to R30). -/
def State.chooseTab (s : State) : Option Choice :=
  match s.servedPanel with
  | none => none
  | some i =>
      match s.panels.records[i] with
      | none => none
      | some p =>
          match s.holdPass p with
          | some (b, t) => some { record := i, panel := p, board := b, tab := t, hold := true }
          | none => (s.freePass p).map fun (b, t) => { record := i, panel := p, board := b, tab := t, hold := false }

/-- Cutting permission (R25). -/
def State.permitted (s : State) : Bool :=
  s.cell.state == .run && s.spindle.state == .atSpeed && !s.bit.worn

/-- A NEXT_CUT taken now would be granted (R30, R31). -/
def State.grantReady (s : State) : Bool :=
  s.permitted && decide (s.scheduler.window.length < 2) && s.chooseTab.isSome

/-- The state on which GRANT_AVAILABLE depends (R31): the boards of the served panel with state, flag and tab states. -/
structure GrantView where
  cell : CellState
  spindle : SpindleState
  worn : Bool
  window : List Grant
  committed : Nat
  hangLimit : Nat
  served : Option (Fin 4)
  boards : List (BoardState × Bool × List TabState)
  deriving DecidableEq, Repr

/-- What R31 depends on, as it stands. -/
def State.grantView (s : State) : GrantView :=
  { cell := s.cell.state, spindle := s.spindle.state, worn := s.bit.worn, window := s.scheduler.window,
    committed := s.hangCommitted, hangLimit := s.scheduler.hangLimit, served := s.servedPanel,
    boards := match s.servedPanel.bind fun i => s.panels.records[i] with
      | some p => p.boards.map fun board => (board.state, board.flagged, board.tabs)
      | none => [] }

/-! ### Depth and feed (R68 to R71) -/

/-- The level L (R68). -/
def BitRecord.level (r : BitRecord) : Nat := (r.wear / r.params.span) % r.params.levels

/-- The Z depth (R68). -/
def BitRecord.depth (r : BitRecord) : Nat := min 1000 (r.params.baseDepth + r.level * r.params.levelStep)

/-- The feed before the override, W below Weol (R69, R70). -/
def BitRecord.feed (r : BitRecord) (f0 : Nat) : Nat :=
  if f0 < r.params.minFeed ∨ r.wear ≤ r.params.derateStart then f0
  else
    r.params.minFeed
      + (f0 - r.params.minFeed) * (r.params.endOfLife - r.wear) / (r.params.endOfLife - r.params.derateStart)

/-- The feed written into a grant (R71). -/
def BitUnit.grantFeed (u : BitUnit) (f0 : Nat) : Nat := clamp 1 1000 (u.record.feed f0 * u.feedOverride / 100)

/-- The ranges of the bit parameters, with Wd below Weol (4.1, R64, R73). -/
def BitParams.inRange (p : BitParams) : Bool :=
  decide ((1 ≤ p.levels ∧ p.levels ≤ 6) ∧ (1 ≤ p.span ∧ p.span ≤ 10000000) ∧ p.baseDepth ≤ 1000
    ∧ (1 ≤ p.levelStep ∧ p.levelStep ≤ 100) ∧ p.derateStart < p.endOfLife
    ∧ (1 ≤ p.endOfLife ∧ p.endOfLife ≤ 100000000) ∧ (1 ≤ p.minFeed ∧ p.minFeed ≤ 1000))

/-! ### Spindle arithmetic (R79, R81) -/

/-- The commanded rpm (R81). -/
def Spindle.commanded (sp : Spindle) : Nat := clamp 6000 60000 (sp.recipeRpm * sp.override / 100)

/-- The target count C for a number of periods SR and a reference R (R79). -/
def targetCount (sr r : Nat) : Nat := (120000000 * sr + r) / (2 * r)

/-- The speed window Wc for a target count (R79). -/
def speedWindow (c band : Nat) : Nat := c * band / 256

/-- The target count in force (R79). -/
def State.target (s : State) : Nat := targetCount s.constants.spindle.sr s.spindle.reference

/-- The speed window in force (R79). -/
def State.window (s : State) : Nat := speedWindow s.target s.constants.spindle.band

/-- The measured rpm of a completed measurement (R79); of a count of 0 the spec states none (log entry 20). -/
def measuredRpm (sr count : Nat) : Nat := if count = 0 then Config.zeroCountRpm sr else 60000000 * sr / count

/-- The loop turns the spindle in these states (R91, R92). -/
def SpindleState.turning : SpindleState → Bool
  | .kick | .ramping | .atSpeed => true
  | .stopped | .faulted => false

/-- The level of the PWM output at the n-th of the 1024 parts of a carrier period (R76). That the high part stands first
is the model's choice (log entry 44). -/
def Spindle.pwm (sp : Spindle) (part : Nat) : Bool := decide (part < sp.duty)

/-! ### Slots and positions (R101, R123 to R125) -/

/-- The board a slot names (6.3). -/
def SlotState.board : SlotState → Option BoardId
  | .reserved id | .filled id | .doubt id => some id
  | .empty | .retired => none

/-- Whether slots k..k+h-1 all exist and are EMPTY. -/
def Session.runEmpty (m : Session) (k h : Nat) : Bool :=
  (List.range h).all fun d => (nth1 m.slots (k + d)).any (·.state == .empty)

/-- The lowest run of h EMPTY slots (R101). -/
def Session.findRun (m : Session) (h : Nat) : Option Nat :=
  (List.range' 1 (m.type.slotCount + 1 - h)).find? fun k => m.runEmpty k h

/-- The run an allocation request of height h would be given (R101): none without a magazine or in a condemned one. -/
def State.runFor (s : State) (h : Nat) : Option Nat :=
  match s.magazine.session with
  | none => none
  | some m => if m.condemned then none else m.findRun h

/-- The slots in a state are counted for MAGAZINE_READ (R114). -/
def Session.countSlots (m : Session) (test : SlotState → Bool) : Nat := (m.slots.filter fun sl => test sl.state).length

/-- The difference a - b of two counts, reduced modulo 2^24 into the signed range (R124). -/
def countDiff (a b : Word24) : Int := (a - b).toInt

/-- The position of slot k of a type, reduced as the counter is (R123). -/
def MagType.pos (t : MagType) (k : Nat) : Word24 := t.base + BitVec.ofNat 24 (((k - 1) * t.pitch16 + 8) / 16)

/-- A count lies within the tolerance of slot k (R124, R125). -/
def MagType.near (t : MagType) (c : Word24) (k : Nat) : Bool := decide ((countDiff c (t.pos k)).natAbs ≤ t.tolerance)

/-- The nearest slot to a count (R125). -/
inductive Nearest where
  | none
  | slot (k : Nat)
  | between
  deriving DecidableEq, Repr

/-- The nearest slot to a count in a loaded type (R125). The divisor is positive, so the quotient rounds toward minus
infinity. -/
def MagType.nearest (t : MagType) (c : Word24) : Nearest :=
  let j : Int := 1 + (countDiff c t.base * 16 + ((t.pitch16 / 2 : Nat) : Int)) / (t.pitch16 : Int)
  if 1 ≤ j ∧ j ≤ (t.slotCount : Int) ∧ t.near c j.toNat = true then .slot j.toNat else .between

/-- The nearest slot with or without a magazine (R125). -/
def State.nearest (s : State) (c : Word24) : Nearest :=
  match s.magazine.session with
  | none => .none
  | some m => m.type.nearest c

/-- Whether a board is BOUND with destination REJECT (R54). -/
def State.rejectBound (s : State) : Bool :=
  allRecords.any fun i => (s.panels.records[i]).any fun p =>
    p.boards.any fun board => board.state == .bound && board.destination == some .reject

/-- The bin's places in use (R110). -/
def State.placesInUse (s : State) : Nat := s.magazine.binCount + (if s.rejectBound then 1 else 0)

/-- A seat doubt is open on a board: it is VERIFYING with its slot in DOUBT (R19). -/
def State.seatDoubtOpen (s : State) (l : Located) : Bool :=
  l.board.state == .verifying
    && s.magazine.session.any fun m => m.slots.any fun sl => sl.state == .doubt l.id

/-- The review reason a board carries (R19). -/
def State.reviewOf (s : State) (l : Located) : Option ReviewReason :=
  if l.board.tabs.any (· == .suspect) then some .suspectTab
  else if s.seatDoubtOpen l then some .seatDoubt
  else none

/-! ### The claimed board and its destination (R46, R57) -/

/-- The claimed board. -/
def State.claimed (s : State) : Option Located := s.gripper.claim.bind fun id => s.locateId id

/-- A board goes to the reject bin: X-out or diverted (R54). -/
def Board.toBin (board : Board) : Bool := board.xout || board.divert

/-- A DESTINATION taken now for the claimed board would bind it (R54, R55, R57). -/
def State.destinationReady (s : State) : Bool :=
  match s.claimed with
  | none => false
  | some l =>
      l.board.state == .loose
        && (if l.board.toBin then decide (s.magazine.binCount < s.magazine.binCapacity)
            else (s.runFor l.board.height).isSome)

/-- The state on which the destination wait depends (R57). -/
structure WaitView where
  count : Nat
  capacity : Nat
  loaded : Option (Nat × Bool × List SlotState)
  divert : Option Bool
  deriving DecidableEq, Repr

/-- What R57 depends on, as it stands. -/
def State.waitView (s : State) : WaitView :=
  { count := s.magazine.binCount, capacity := s.magazine.binCapacity,
    loaded := s.magazine.session.map fun m => (m.tag, m.condemned, m.slots.map (·.state)),
    divert := s.claimed.map (·.board.divert) }

/-! ### Insertion control (R132) -/

/-- The target board and its target slot (8.1). -/
structure Target where
  id : BoardId
  first : Nat
  height : Nat
  state : BoardState
  deriving DecidableEq, Repr

/-- The target board: the claimed board while it is BOUND to a slot or INSERTING (8.1). -/
def State.targetBoard (s : State) : Option Target :=
  match s.claimed with
  | none => none
  | some l =>
      match l.board.destination with
      | some (.slot k) =>
          if l.board.state == .bound || l.board.state == .inserting then
            some { id := l.id, first := k, height := l.board.height, state := l.board.state }
          else none
      | some .reject => none
      | none => none

/-- The slot a target board is BOUND to, if one is. -/
def State.boundSlot (s : State) : Option Nat :=
  match s.targetBoard with
  | some t => if t.state == .bound then some t.first else none
  | none => none

/-- The slot is wanted (R132). -/
def State.slotWanted (s : State) : Bool := s.boundSlot.any fun k => s.insertion.confirmation != some k

/-- The slot is ready (R132). -/
def State.slotReady (s : State) : Bool :=
  s.boundSlot.any fun k => s.insertion.confirmation == some k && !s.insertion.permission

/-! ### Cell control and ports (R145, R158, R166) -/

/-- The hold set is empty (R146). -/
def HoldSet.isEmpty (h : HoldSet) : Bool := !(h.cell || h.router || h.pick || h.magazine || h.fault)

/-- The member of a port set or cleared (R145). -/
def HoldSet.setPort (h : HoldSet) (p : Port) (v : Bool) : HoldSet :=
  match p with
  | .cell => { h with cell := v }
  | .router => { h with router := v }
  | .pick => { h with pick := v }
  | .magazine => { h with magazine := v }

/-- A fault entry keeps FAULT in the hold set: enabled, action HOLD, active or latched (R145). -/
def FaultEntry.holds (e : FaultEntry) : Bool := e.enabled && e.action == .hold && (e.active || e.latched)

/-- FAULT belongs in the hold set (R145). -/
def State.faultHolds (s : State) : Bool := allFaults.any fun k => (s.fault k).holds

/-- An event kind of the ports (R164). -/
inductive EventKind where
  | resetDone | faultRaised | reviewNeeded | panelDone | manifestReady | storeDone | grantRevoked | cuttingStopped
  | grantAvailable | claimEnded | insertDisturbed | slotReady | destinationReady | boardHanging | homingNeeded
  | unloadWanted | positionWanted
  deriving DecidableEq, Repr

/-- The kinds of a port, highest priority first; kind number n is at place n (R164). -/
def portKinds : Port → List EventKind
  | .cell => [.resetDone, .faultRaised, .reviewNeeded, .panelDone, .manifestReady, .storeDone]
  | .router => [.resetDone, .grantRevoked, .cuttingStopped, .grantAvailable]
  | .pick => [.resetDone, .claimEnded, .insertDisturbed, .slotReady, .destinationReady, .boardHanging]
  | .magazine => [.resetDone, .homingNeeded, .insertDisturbed, .unloadWanted, .positionWanted]

/-- The kind number of a kind on a port, 0 if it is no kind of the port (R164). -/
def kindNumber (p : Port) (k : EventKind) : Nat :=
  match (portKinds p).findIdx? (· == k) with
  | some i => i + 1
  | none => 0

/-- The mask bit of a kind on a port: 2^(i - 1) for kind number i (R166). -/
def kindBit (p : Port) (k : EventKind) : Byte :=
  match (portKinds p).findIdx? (· == k) with
  | some i => 1#8 <<< i
  | none => 0

/-- The mask of every kind of a port (R166, R167). -/
def allKinds (p : Port) : Byte := 255#8 >>> (8 - (portKinds p).length)

/-- Whether a kind is pending on a port (R164). -/
def State.isPending (s : State) (p : Port) (k : EventKind) : Bool := (s.port p).events &&& kindBit p k != 0

/-- The attention summary: the number of kinds pending, enabled or not (R159). -/
def attentionSummary (events : Byte) : Nat := ((List.range 8).filter fun i => events.getLsbD i).length

/-- A port's attention line is driven low: a kind is both pending and enabled; not before a reset has completed (R166,
R167). -/
def State.attentionLow (s : State) (p : Port) : Bool :=
  !s.starting && (s.port p).events &&& (s.port p).enabled != 0

end Sys2Proof.Machine
end

