-- ==== Sys2Proof/Machine/Ops.lean ====
section
/-! DEFINITION. The named operations that commands share: posting and answering, timers, the settings store, grants,
the spindle loop, cell control, boards, slots, insertion control. -/

namespace Sys2Proof.Machine

/-! ### Ports (R161, R164) -/

/-- A kind posted to a port; if it is pending already, the set is left as it is (R164). -/
def State.post (s : State) (p : Port) (k : EventKind) : State :=
  s.modifyPort p fun v => { v with events := v.events ||| kindBit p k }

/-- The outcome and body that a request's rule gives its answer (R161). -/
structure Reply where
  verdict : Verdict
  body : List Byte
  deriving DecidableEq, Repr

/-- The answer to a request that has just been taken becomes the pending answer, and the transaction is over (R161). -/
def State.answer (s : State) (p : Port) (code : Byte) (r : Reply) : State :=
  s.modifyPort p fun v =>
    { v with answer := some { echo := code, verdict := r.verdict, body := r.body }, line := .idle }

/-- An answer with no body. -/
def Reply.bare (v : Verdict) : Reply := { verdict := v, body := [] }

/-! ### Timers (R34, R84, R87, R141, R147) -/

/-- A timer loaded with a number of milliseconds. -/
def Timer.load (ms : Nat) : Timer := { ms := ms, us := 0 }

/-- One time-base cycle of a running timer (log entry 19). -/
def Timer.tick (t : Timer) : Timer := if t.us + 1 < 1000 then { t with us := t.us + 1 } else { ms := t.ms - 1, us := 0 }

/-- A timer has run out. -/
def Timer.due (t : Timer) : Bool := t.ms == 0

/-! ### Settings store (R169 to R171) -/

/-- A pending-save flag and explicit mark set. -/
def State.setPending (s : State) (r : RecordId) (explicit : Bool) : State :=
  let f := s.store.flags r
  { s with store := s.store.setFlags r { f with pending := true, explicit := f.explicit || explicit } }

/-- An automatic save: dropped without fault while the write-protect sample is active (R171). -/
def State.queueSave (s : State) (r : RecordId) : State := if s.store.writeProtect then s else s.setPending r false

/-- The marker of a record erased and its working copy written as it stands (R170, log entry 24). -/
def State.writeContents (s : State) (r : RecordId) : State :=
  match r with
  | .constants => { s with store := { s.store with constants := { marker := false, contents := s.constants } } }
  | .bit => { s with store := { s.store with bit := { marker := false, contents := s.bit.record } } }
  | .register => { s with store := { s.store with register := { marker := false, contents := s.magazine.register } } }

/-- The record whose write begins next (R170). -/
def Store.nextWrite (st : Store) : Option RecordId :=
  [RecordId.constants, .bit, .register].find? fun r => (st.flags r).pending

/-- The store, if it is free and a flag is set, begins a write (R170). -/
def State.storeBegin (s : State) : State :=
  match s.store.writing with
  | some _ => s
  | none =>
      match s.store.nextWrite with
      | none => s
      | some r =>
          let f := s.store.flags r
          let t := s.writeContents r
          { t with store := { t.store.setFlags r { f with pending := false, explicit := false } with
                              writing := some { record := r, explicit := f.explicit } } }

/-- The marker of a record written or left absent at the end of its write (R170). -/
def Store.setMarker (st : Store) (r : RecordId) (b : Bool) : Store :=
  match r with
  | .constants => { st with constants := { st.constants with marker := b } }
  | .bit => { st with bit := { st.bit with marker := b } }
  | .register => { st with register := { st.register with marker := b } }

/-! ### The grant window (R32 to R34, R41) -/

/-- The cut time limit of the recipe of a grant's panel (R34). -/
def State.cutLimit (s : State) (g : Grant) : Option Nat :=
  ((s.recordOfSerial g.serial).bind fun i => s.panels.records[i]).bind fun p => (s.recipeOf p).map (·.header.cutLimit)

/-- The expiry timer freshly loaded for a grant that becomes oldest (R34). -/
def State.loadExpiry (s : State) (g : Grant) : Option Timer := (s.cutLimit g).map Timer.load

/-- The oldest grant leaves the window, and the next one, if any, becomes oldest (R32, R34). -/
def State.dropOldest (s : State) : State :=
  let rest := s.scheduler.window.tail
  { s with scheduler := { s.scheduler with window := rest, expiry := rest.head?.bind s.loadExpiry } }

/-- The grants that satisfy the test are marked REVOKED; GRANT_REVOKED is posted if one of them was LIVE (R41). -/
def State.revoke (s : State) (test : Grant → Bool) : State :=
  let t := { s with scheduler := { s.scheduler with
                       window := s.scheduler.window.map fun g => if test g then { g with live := false } else g } }
  if s.scheduler.window.any fun g => test g && g.live then t.post .router .grantRevoked else t

/-- Every grant in the window is revoked (R42). -/
def State.revokeAll (s : State) : State := s.revoke fun _ => true

/-! ### Spindle stop (R91) and cell control (R145 to R149, R153, R154) -/

/-- A stop of the spindle loop; STOPPED and FAULTED stay as they are (R91). -/
def State.stopSpindle (s : State) : State :=
  if s.spindle.state.turning then
    { s with spindle := { s.spindle with state := .stopped, duty := 0, measurement := none, kickTimer := none,
                                         settleTimer := none } }.revokeAll
  else s

/-- Entry to PARK (R149). -/
def State.enterPark (s : State) : State :=
  ({ s with cell := { s.cell with state := .park, parkTimer := none } }.revokeAll.stopSpindle).queueSave .bit

/-- Entry to STANDBY from RUN, HOLD or PARK at CELL_STOP (R152). -/
def State.enterStandby (s : State) : State :=
  { s with cell := { s.cell with state := .standby, parkTimer := none } }.revokeAll.stopSpindle

/-- Entry to HOLD: the park timer is loaded unless the park delay is 0 (R147). -/
def State.enterHold (s : State) : State :=
  { s with cell := { s.cell with state := .hold,
                                 parkTimer := if s.constants.parkDelay = 0 then none
                                              else some (Timer.load (s.constants.parkDelay * 1000)) } }

/-- Entry to RUN: the park timer is stopped (R146, R147). -/
def State.enterRun (s : State) : State := { s with cell := { s.cell with state := .run, parkTimer := none } }

/-- The hold set replaced, and the effect of a change on RUN and HOLD (R146). -/
def State.setHolds (s : State) (h : HoldSet) : State :=
  if h = s.cell.holds then s
  else
    let t := { s with cell := { s.cell with holds := h } }
    match s.cell.state with
    | .run => if h.isEmpty then t else t.enterHold
    | .hold => if h.isEmpty then t.enterRun else t
    | .unconfigured | .standby | .park => t

/-- FAULT in the hold set re-evaluated (R145). -/
def State.reevaluateFault (s : State) : State := s.setHolds { s.cell.holds with fault := s.faultHolds }

/-- The count, the latch and the notice of a raise of an enabled kind (R154). -/
def State.countFault (s : State) (k : FaultKind) : State :=
  let t := s.modifyFault k fun e => { e with count := min 255 (e.count + 1), latched := e.latched || e.latch }
  { t with cell := { t.cell with lastRaised := some k } }.post .cell .faultRaised

/-- A PARK action: RUN and HOLD park, the other states stay (R154). -/
def State.parkIfActive (s : State) : State :=
  match s.cell.state with
  | .run | .hold => s.enterPark
  | .unconfigured | .standby | .park => s

/-- A kind raised to cell control (R153, R154; log entry 29). -/
def State.raise (s : State) (k : FaultKind) : State :=
  let active := s.modifyFault k fun e => { e with active := e.active || k.persistent }
  if (s.fault k).enabled then
    let counted := (active.countFault k).reevaluateFault
    match (s.fault k).action with
    | .park => counted.parkIfActive
    | .note | .hold => counted
  else active.reevaluateFault

/-- The condition of a persistent kind has ended (R153). -/
def State.endCondition (s : State) (k : FaultKind) : State :=
  (s.modifyFault k fun e => { e with active := false }).reevaluateFault

/-! ### The spindle loop (R81 to R90) -/

/-- START: STOPPED goes to KICK, the other states ignore it (R83, R84). -/
def State.start (s : State) : State :=
  if s.spindle.state = .stopped then
    { s with spindle := { s.spindle with state := .kick, duty := s.constants.spindle.kickDuty, kickEdges := 0,
                                         kickTimer := some (Timer.load s.constants.spindle.kickTimeout) } }
  else s

/-- The settle timer freshly loaded with the settle limit (R87). -/
def State.loadSettle (s : State) : Option Timer := some (Timer.load (s.constants.spindle.settleLimit * 1000))

/-- The settle timer when RAMPING with this reference and commanded rpm begins (R87). -/
def State.settleFor (s : State) (reference commanded : Nat) : Option Timer :=
  if reference = commanded then s.loadSettle else none

/-- The recipe rpm and the speed override replaced; a different commanded rpm is taken in the current state (R81, R87,
R88). -/
def State.retarget (s : State) (recipeRpm override : Nat) : State :=
  let sp := { s.spindle with recipeRpm := recipeRpm, override := override }
  if sp.commanded = s.spindle.commanded then { s with spindle := sp }
  else
    match s.spindle.state with
    | .atSpeed =>
        { s with spindle := { sp with state := .ramping, strain := 0, miss := 0,
                                      settleTimer := s.settleFor sp.reference sp.commanded } }
    | .ramping => { s with spindle := { sp with settleTimer := s.settleFor sp.reference sp.commanded } }
    | .stopped | .kick | .faulted => { s with spindle := sp }

/-- A new measurement (R77, R78). -/
def Measurement.new (synchronised : Bool) : Measurement := { count := 0, edges := 0, synchronised := synchronised }

/-- Entry to RAMPING from KICK (R82, R84, R87). -/
def State.enterRamping (s : State) : State :=
  { s with spindle := { s.spindle with state := .ramping, duty := s.constants.spindle.startDuty, reference := 6000,
                                       strain := 0, kickTimer := none, measurement := some (Measurement.new true),
                                       settleTimer := s.settleFor 6000 s.spindle.commanded } }

/-- Entry to FAULTED (R89, R92). -/
def State.enterFaulted (s : State) (cause : SpindleCause) : State :=
  ({ s with spindle := { s.spindle with state := .faulted, duty := 0, measurement := none, kickTimer := none,
                                        settleTimer := none, cause := some cause } }.revokeAll).raise .spindleFault

/-- The loop step: the duty after a measurement with error e, window w and coarse step c (R85). -/
def loopStep (duty w c : Nat) (e : Int) : Nat :=
  let d := if e.natAbs ≤ w then 1 else c
  if 0 < e then min 1023 (duty + d) else if e < 0 then duty - d else duty

/-- A measurement completes in RAMPING or AT_SPEED (R78, R85, R86, R88). -/
def State.completeMeasurement (s : State) (count : Nat) (stall : Bool) : State :=
  let sp := s.spindle
  let e : Int := (count : Int) - (s.target : Int)
  let w := s.window
  let k := s.constants.spindle
  let after := { sp with last := some { count := count, stall := stall }, duty := loopStep sp.duty w k.coarseStep e }
  match sp.state with
  | .ramping =>
      let strain := if stall ∨ (sp.duty = 1023 ∧ (w : Int) < e) then sp.strain + 1 else 0
      if k.stallDepth ≤ strain then { s with spindle := { after with strain := strain } }.enterFaulted .strain
      else if sp.reference = sp.commanded ∧ e.natAbs ≤ w then
        { s with spindle := { after with state := .atSpeed, strain := 0, miss := 0, settleTimer := none } }
      else { s with spindle := { after with strain := strain } }
  | .atSpeed =>
      let miss := if stall ∨ w < e.natAbs then sp.miss + 1 else 0
      if k.missDepth ≤ miss then
        { s with spindle := { after with state := .ramping, strain := 0, miss := miss, settleTimer := s.loadSettle } }
      else { s with spindle := { after with miss := miss } }
  | .stopped | .kick | .faulted => s

/-- A stall measurement completes and a new unsynchronised one begins, having counted some cycles already (R78; the
cycles are those of log entry 4). -/
def State.completeStall (s : State) (counted : Nat) : State :=
  { s with spindle := { s.spindle with measurement := some { Measurement.new false with count := counted } }
    }.completeMeasurement 65535 true

/-- A tach edge reaches the measurement in progress (R77). -/
def State.edgeInMeasurement (s : State) : State :=
  match s.spindle.measurement with
  | none => s
  | some m =>
      let fresh := { s with spindle := { s.spindle with measurement := some (Measurement.new true) } }
      if !m.synchronised then fresh
      else if s.constants.spindle.sr ≤ m.edges + 1 then fresh.completeMeasurement m.count false
      else { s with spindle := { s.spindle with measurement := some { m with edges := m.edges + 1 } } }

/-- Time-base cycles pass in the measurement in progress; at saturation a stall completes first (R77, R78). -/
def State.advanceMeasurement (s : State) (cycles : Nat) : State :=
  match s.spindle.measurement with
  | none => s
  | some m =>
      if m.count + cycles < 65535 then
        { s with spindle := { s.spindle with measurement := some { m with count := m.count + cycles } } }
      else s.completeStall (m.count + cycles - 65535)

/-- One step of the reference toward the commanded rpm (R82). -/
def rampStep (reference commanded rate : Nat) : Nat :=
  if reference < commanded then min commanded (reference + rate) else max commanded (reference - rate)

/-! ### Bit wear (R65, R66) -/

/-- A cut charged to the bit; crossing the end of life sets the worn flag and raises BIT_WORN. -/
def State.addWear (s : State) (length : Nat) : State :=
  let w := min 4294967295 (s.bit.record.wear + length)
  let t := { s with bit := { s.bit with record := { s.bit.record with wear := w } } }
  if !s.bit.worn && decide (s.bit.record.params.endOfLife ≤ w) then
    { t with bit := { t.bit with worn := true } }.raise .bitWorn
  else t

/-! ### Boards and panels (R15, R16, R19, R36 to R38) -/

/-- The count of a terminal state goes up by one (R15). -/
def Panel.tally (p : Panel) : BoardState → Panel
  | .stowed => { p with stowed := p.stowed + 1 }
  | .rejected => { p with rejected := p.rejected + 1 }
  | .lost => { p with lost := p.lost + 1 }
  | .abandoned => { p with abandoned := p.abandoned + 1 }
  | .cutting | .hanging | .claimed | .held | .loose | .bound | .inserting | .verifying => p

/-- A board takes a state, with its panel's count of that name (R15). -/
def Panel.moveBoard (p : Panel) (b : Nat) (st : BoardState) : Panel :=
  (p.modifyBoard b fun board => { board with state := st }).tally st

/-- An ACTIVE record none of whose boards is attached is DRAINING (R16). -/
def Panel.drained (p : Panel) : PanelState :=
  match p.state with
  | .active f => if p.boards.any (·.state.attached) then .active f else .draining
  | .draining => .draining
  | .finished => .finished

/-- The state of a record re-examined after a board change: a DRAINING one with all boards terminal is FINISHED (R16). -/
def Panel.settled (p : Panel) : PanelState :=
  match p.drained with
  | .draining => if p.boards.all (·.state.terminal) then .finished else .draining
  | .active f => .active f
  | .finished => .finished

/-- A record re-examined (R16); on entering FINISHED, PANEL_DONE is posted and a BIT save queued. -/
def State.reexamine (s : State) (i : Fin 4) : State :=
  match s.panels.records[i] with
  | none => s
  | some p =>
      let t := s.setRecord i (some { p with state := p.settled })
      if p.settled = .finished ∧ p.state ≠ .finished then (t.post .cell .panelDone).queueSave .bit else t

/-- A board changes state, and its panel record is re-examined (R15, R16). -/
def State.moveBoard (s : State) (i : Fin 4) (b : Nat) (st : BoardState) : State :=
  (s.modifyPanel i (·.moveBoard b st)).reexamine i

/-- The review reason of a board re-evaluated (R19). -/
def State.review (s : State) (i : Fin 4) (b : Nat) : State :=
  match s.locate i b with
  | none => s
  | some l => s.modifyBoard i b fun board => { board with review := s.reviewOf l }

/-- A tab changes state, and the board's review reason is re-evaluated (R14, R19). -/
def State.setTab (s : State) (i : Fin 4) (b t : Nat) (st : TabState) : State :=
  (s.modifyBoard i b (·.setTab t st)).review i b

/-- A board joins the tail of the hanging queue and BOARD_HANGING is posted (R36, R48). -/
def State.hang (s : State) (id : BoardId) : State :=
  { s with gripper := { s.gripper with queue := s.gripper.queue ++ [id] } }.post .pick .boardHanging

/-- A board leaves the hanging queue (R48). -/
def State.unqueue (s : State) (id : BoardId) : State :=
  { s with gripper := { s.gripper with queue := s.gripper.queue.filter (· != id) } }

/-- The claim is emptied, and the destination wait is discarded with it (R47). -/
def State.emptyClaim (s : State) : State := { s with gripper := { s.gripper with claim := none, wait := none } }

/-- A board is dropped: it is LOST, leaves the queue or the claim, and BOARD_DROPPED is raised (R38, R47). -/
def State.dropBoard (s : State) (l : Located) : State :=
  let freed := if l.board.state = .claimed then s.emptyClaim.post .pick .claimEnded else s.unqueue l.id
  (freed.moveBoard l.record l.index .lost).raise .boardDropped

/-- A board's uncut count for a role goes down by one (R13). -/
def Board.countCut (board : Board) (hold : Bool) : Board :=
  if hold then { board with holdUncut := board.holdUncut - 1 } else { board with freeUncut := board.freeUncut - 1 }

/-- A tab becomes CUT, its board's count for the role goes down, and the board moves by its state (R21, R36, R37). -/
def State.cutTab (s : State) (l : Located) (t : Nat) : State :=
  let hold := s.isHold l.panel l.index t
  let board := l.board.countCut hold
  let cut := (s.modifyBoard l.record l.index (·.countCut hold)).setTab l.record l.index t .cut
  if hold then
    if board.holdUncut = 0 then
      match l.board.state with
      | .held => cut.moveBoard l.record l.index .loose
      | .hanging | .claimed => cut.dropBoard l
      | .cutting | .loose | .bound | .inserting | .verifying | .stowed | .rejected | .lost | .abandoned => cut
    else cut
  else if board.freeUncut = 0 ∧ l.board.state = .cutting then (cut.moveBoard l.record l.index .hanging).hang l.id
  else cut

/-! ### Slots, register and manifest (R97, R100 to R104, R107, R108) -/

/-- Slots k..k+h-1 take a state (R100). -/
def Session.setRun (m : Session) (k h : Nat) (st : SlotState) : Session :=
  { m with slots := m.slots.mapIdx fun n slot => if k ≤ n + 1 ∧ n + 1 < k + h then { slot with state := st } else slot }

/-- Every slot in one state takes another. -/
def Session.restate (m : Session) (old new : SlotState) : Session :=
  { m with slots := m.slots.map fun slot => if slot.state = old then { slot with state := new } else slot }

/-- The seat failure count of slot k set (R107). -/
def Session.setFailures (m : Session) (k n : Nat) : Session :=
  { m with slots := modify1 m.slots k fun slot => { slot with failures := n } }

/-- The loaded session changed; without one nothing changes. -/
def State.modifySession (s : State) (f : Session → Session) : State :=
  { s with magazine := { s.magazine with session := s.magazine.session.map f } }

/-- The full mark set to a height, or kept at 1, and UNLOAD_WANTED posted (R101). -/
def State.markFull (s : State) (h : Nat) : State :=
  (s.modifySession fun m => { m with full := some (if m.full = some 1 then 1 else h) }).post .magazine .unloadWanted

/-- A board's destination set or removed (R54, R55, R102). -/
def State.setDestination (s : State) (i : Fin 4) (b : Nat) (d : Option Destination) : State :=
  s.modifyBoard i b fun board => { board with destination := d }

/-- A board's reservation released: its RESERVED run becomes EMPTY and its destination is removed (R102). -/
def State.release (s : State) (l : Located) : State :=
  (s.modifySession fun m => m.restate (.reserved l.id) .empty).setDestination l.record l.index none

/-- A bound or inserting board returns to LOOSE without a destination, and the robot is told (R57, R59, R60, R107). -/
def State.loosen (s : State) (l : Located) : State :=
  (((s.release l).moveBoard l.record l.index .loose)).post .pick .destinationReady

/-- A manifest entry appended with the run it fills (R103, R104). -/
def Session.fill (m : Session) (id : BoardId) (j h : Nat) : Session :=
  let filled := (m.setRun j h (.filled id)).setFailures j 0
  { filled with manifest := m.manifest ++ [{ stow := m.stow, first := j, height := h, board := id }],
                stow := m.stow + 1 }

/-- A board stowed at first slot j (R103). -/
def State.stow (s : State) (l : Located) (j : Nat) : State :=
  ((s.modifySession fun m => m.fill l.id j l.board.height).moveBoard l.record l.index .stowed).review l.record l.index

/-- A board's RESERVED run goes to DOUBT, and SEAT_DOUBT is raised (R103, R142). -/
def State.doubt (s : State) (l : Located) : State :=
  ((((s.modifySession fun m => m.restate (.reserved l.id) (.doubt l.id))).review l.record l.index).post .cell
    .reviewNeeded).raise .seatDoubt

/-- The register changed, which queues a save of it (R97). -/
def State.setRegister (s : State) (r : List RegisterEntry) : State :=
  { s with magazine := { s.magazine with register := r } }.queueSave .register

/-- The register entry of a tag changed where it stands (R97). -/
def State.modifyEntry (s : State) (tag : Nat) (f : RegisterEntry → RegisterEntry) : State :=
  s.setRegister (s.magazine.register.map fun e => if e.tag = tag then f e else e)

/-- The register entry of a tag moved to the tail (R97). -/
def touchEntry (r : List RegisterEntry) (tag : Nat) : List RegisterEntry :=
  r.filter (·.tag != tag) ++ r.filter (·.tag == tag)

/-- A slot number inserted in ascending place (R107). -/
def insertAscending (k : Nat) : List Nat → List Nat
  | [] => [k]
  | x :: xs => if k < x then k :: x :: xs else x :: insertAscending k xs

/-- The loaded magazine condemned (R108). -/
def State.condemn (s : State) (tag : Nat) : State :=
  (((s.modifyEntry tag fun e => { e with condemned := true }).modifySession fun m => { m with condemned := true }).raise
    .magazineCondemned).markFull 1

/-- The board a RESERVED slot is held for (6.3). -/
def SlotState.reservedFor : SlotState → Option BoardId
  | .reserved id => some id
  | .empty => none
  | .filled _ => none
  | .retired => none
  | .doubt _ => none

/-- Slot k retired (R107): RETIRED with count 0, listed in the register entry; a board that had it reserved goes to
LOOSE. -/
def State.retire (s : State) (tag k : Nat) : State :=
  let holder := (s.magazine.session.bind fun m => nth1 m.slots k).bind fun slot => slot.state.reservedFor
  let listed := s.modifyEntry tag fun e => { e with retired := insertAscending k e.retired }
  let marked := listed.modifySession fun m => (m.setRun k 1 .retired).setFailures k 0
  let freed := match holder.bind s.locateId with
    | some l => marked.loosen l
    | none => marked
  freed.raise .slotRetired

/-- A seat failure at slot k (R107): the second one retires the slot, or condemns the magazine when its entry lists 8
slots already. -/
def State.seatFailure (s : State) (k : Nat) : State :=
  match s.magazine.session with
  | none => s
  | some m =>
      let n := min 2 (((nth1 m.slots k).map (·.failures)).getD 0 + 1)
      let t := s.modifySession fun m => m.setFailures k n
      if n < 2 ∨ m.condemned then t
      else
        match s.magazine.register.find? (·.tag == m.tag) with
        | none => t
        | some e => if e.retired.length < 8 then t.retire m.tag k else t.condemn m.tag

/-! ### Insertion control (R132, R136, R138, R142) -/

/-- The elevator confirmation withdrawn (R136); if it named the target slot of a BOUND board, the slot is then wanted
(R132). -/
def State.withdraw (s : State) : State :=
  let t := { s with insertion := { s.insertion with confirmation := none } }
  match s.insertion.confirmation with
  | some k => if s.boundSlot = some k then t.post .magazine .positionWanted else t
  | none => t

/-- A disturbance: the first one of an open insertion sets its flag and is posted to both ports (R138). -/
def State.disturb (s : State) : State :=
  match s.insertion.insertion with
  | none => s
  | some ins =>
      if ins.disturbed then s
      else
        let t := { s with insertion := { s.insertion with insertion := some { ins with disturbed := true } } }
        (t.post .pick .insertDisturbed).post .magazine .insertDisturbed

/-- The counter has changed: a confirmation, and an open insertion, whose slot is now out of tolerance (R136, R138). -/
def State.counterMoved (s : State) : State :=
  match s.magazine.session with
  | none => s
  | some m =>
      let c := s.elevator.counter
      let kept := match s.insertion.confirmation with
        | some k => if m.type.near c k then s else s.withdraw
        | none => s
      match s.insertion.insertion with
      | some ins => if m.type.near c ins.first then kept else kept.disturb
      | none => kept

/-- The verification of a board reserved at k, of height class h, by a capture (R142). -/
def State.verify (s : State) (l : Located) (k h : Nat) (c : Word24) : State :=
  if !s.elevator.homed then s.doubt l
  else
    match s.nearest c with
    | .slot j =>
        if j = k then s.stow l k
        else if s.magazine.session.any fun m => m.runEmpty j h then ((s.release l).stow l j).raise .seatMismatch
        else s.doubt l
    | .between => s.doubt l
    | .none => s.doubt l

/-- The settle wait ends: its board is judged (R141). -/
def State.endWait (s : State) (judge : State → Located → SettleWait → State) : State :=
  match s.insertion.wait with
  | none => s
  | some w =>
      let t := { s with insertion := { s.insertion with wait := none } }
      match s.locateId w.board with
      | some l => judge t l w
      | none => t

end Sys2Proof.Machine
end

