-- ==== Sys2Proof/Machine/Clock.lean ====
section
/-! DEFINITION. One cycle of the 1 MHz time base: counts and timers advance, and what falls due is queued (log entries 1
to 3). -/

namespace Sys2Proof.Machine

/-- A timer after one cycle, and its event if it has run out. -/
def tickTimer (t : Option Timer) (due : Instr) : Option Timer × List Instr :=
  match t with
  | none => (none, [])
  | some t => (some t.tick, if t.tick.due then [due] else [])

/-- The measurement in progress after one cycle, and its saturation (R77, R78). -/
def tickMeasurement (m : Option Measurement) : Option Measurement × List Instr :=
  match m with
  | none => (none, [])
  | some m => (some { m with count := m.count + 1 }, if 65535 ≤ m.count + 1 then [.stallMeasurement] else [])

/-- The control period after one cycle, and its expiry (R82). -/
def tickPhase (phase : Nat) : Nat × List Instr := if phase + 1 < 10000 then (phase + 1, []) else (0, [.controlPeriod])

/-- One more due event, put where draw n says; with no other event there is no order to draw (log entry 3). -/
def placeDue (queue : List Instr) (n : Nat) (event : Instr) : List Instr :=
  match queue with
  | [] => [event]
  | _ :: _ => queue.insertIdx (Config.eventOrder n % (queue.length + 1)) event

/-- The events of one cycle in an order that the draws from n on give. -/
def orderDue (n : Nat) : List Instr → List Instr → List Instr
  | queue, [] => queue
  | queue, event :: rest => orderDue (n + 1) (placeDue queue n event) rest

/-- One cycle of the time base on an empty queue. While the start-up read runs no timer runs (R173). -/
def State.tick (s : State) : State :=
  if s.starting then s
  else
    let (m, d1) := tickMeasurement s.spindle.measurement
    let (phase, d2) := tickPhase s.spindle.controlPhase
    let (kick, d3) := tickTimer s.spindle.kickTimer .kickTimeout
    let (settle, d4) := tickTimer s.spindle.settleTimer .settle
    let (expiry, d5) := tickTimer s.scheduler.expiry .grantExpiry
    let (park, d6) := tickTimer s.cell.parkTimer .parkTimer
    let (seat, d7) := tickTimer (s.insertion.wait.map (·.timer)) .seatSettleTimeout
    let due := d1 ++ d2 ++ d3 ++ d4 ++ d5 ++ d6 ++ d7
    { s with
      spindle := { s.spindle with measurement := m, controlPhase := phase, kickTimer := kick, settleTimer := settle }
      scheduler := { s.scheduler with expiry := expiry }
      cell := { s.cell with parkTimer := park }
      insertion := { s.insertion with wait := match s.insertion.wait, seat with
                                        | some w, some t => some { w with timer := t }
                                        | w, none => w
                                        | none, _ => none }
      pending := orderDue s.freeIndex s.pending due
      freeIndex := s.freeIndex + due.length }

end Sys2Proof.Machine
end

