-- ==== Sys2Proof/Machine/Commit.lean ====
section
/-! DEFINITION. What the part re-examines at the end of a change, and the two frames every command runs in: a request
taken at the rising edge of select, and an event of a line, a timer or the store. -/

namespace Sys2Proof.Machine

/-- The full mark re-examined after a change of the slot map of one session (R101, log entry 15). -/
def State.refreshFull (before after : State) : State :=
  match before.magazine.session, after.magazine.session with
  | some m, some m' =>
      if m.slots.map (·.state) = m'.slots.map (·.state) then after
      else if m'.slots.all (·.state != .empty) then after.markFull 1
      else
        match m'.full with
        | some h =>
            if !m'.condemned && (m'.findRun h).isSome then after.modifySession fun m => { m with full := none } else after
        | none => after
  | some _, none => after
  | none, _ => after

/-- The destination wait re-examined after a change of what it depends on (R57, log entry 15). -/
def State.refreshWait (before after : State) : State :=
  if after.gripper.wait.isSome ∧ before.waitView ≠ after.waitView ∧ after.destinationReady = true then
    { after with gripper := { after.gripper with wait := none } }.post .pick .destinationReady
  else after

/-- A newly served panel hands its recipe's rpm to the spindle loop (R24). -/
def State.handOver (before after : State) : State :=
  if before.servedPanel = after.servedPanel then after
  else
    match (after.servedPanel.bind fun i => after.panels.records[i]).bind after.recipeOf with
    | some r => after.retarget r.header.rpm after.spindle.override
    | none => after

/-- A kind posted when a condition holds. -/
def State.postIf (s : State) (b : Bool) (p : Port) (k : EventKind) : State := if b then s.post p k else s

/-- The conditions that a controller is told of when they begin or end, against the state before (R25, R31, R132; log
entries 13, 33). -/
def State.announce (before after : State) : State :=
  let s := after.postIf (after.slotWanted && !before.slotWanted) .magazine .positionWanted
  let s := s.postIf (after.slotReady && !before.slotReady) .pick .slotReady
  let s := s.postIf (before.permitted && !after.permitted) .router .cuttingStopped
  s.postIf (after.grantReady && decide (before.grantView ≠ after.grantView)) .router .grantAvailable

/-- The end of a change: what depends on the whole state is re-examined against the state before (R24, R57, R101), the
controllers are told, and a free store begins a pending write (R170). -/
def commit (before after : State) : State :=
  (before.announce (before.handOver (before.refreshWait (before.refreshFull after)))).storeBegin

/-- What a command does. -/
abbrev Result := Host.Outcome State Fault Refusal

/-- What a block answers to a request, with the state it leaves (R162). -/
abbrev Handler := State → State × Reply

/-- A refusal that changes nothing (R162). -/
def refuse (s : State) (r : RefusedReason) : State × Reply := (s, .bare (.refused r))

/-- A wait that changes nothing (R162). -/
def waitFor (s : State) (r : WaitReason) : State × Reply := (s, .bare (.wait r))

/-- A change that ends with this answer; its body is made from the state the change leaves (R159). -/
def conclude (before after : State) (v : Verdict) (body : State → List Byte) : State × Reply :=
  let t := commit before after
  (t, { verdict := v, body := body t })

/-- An accepted request and its change. -/
def accept (before after : State) (body : State → List Byte) : State × Reply := conclude before after .accepted body

/-- A read: the part unchanged, the body made from it (R159). -/
def respond (s : State) (body : List Byte) : State × Reply := (s, { verdict := .accepted, body := body })

/-- A refusal at the port (R160, R162): the block is not reached. -/
def State.refuseAtPort (s : State) (p : Port) (code : Byte) (r : RefusedReason) : State :=
  s.answer p code (.bare (.refused r))

/-- A request of a code, taken at the end of its transaction (R161, R162, R167; log entry 5). -/
def State.request (s : State) (p : Port) (code : Byte) (handle : Handler) : State :=
  if (s.port p).line = .ignored then s.modifyPort p fun v => { v with line := .idle }
  else if !allowed code p then s.refuseAtPort p code .wrongPort
  else if s.starting then s.refuseAtPort p code .starting
  else
    let (t, r) := handle s
    t.answer p code r

/-- An event of a line or a timer: while the start-up read runs no line is sampled and no timer runs (R173). -/
def State.event (s : State) (f : State → State) : State := if s.starting then s else commit s (f s)

end Sys2Proof.Machine
end

