-- ==== Sys2Proof/Machine/Bodies.lean ====
section
/-! DEFINITION. The bytes of answers: the numbers of the enumerated values, the bodies that the rules name (R163; the
choices where the layout is left open are log entries 18, 38 to 41, 43 and 45 to 49), and the answer frame on MISO (R159). -/

namespace Sys2Proof.Machine

/-! ### Numbers, flags, marks and lists (R163) -/

def n8 (n : Nat) : List Byte := [BitVec.ofNat 8 n]
def n16 (n : Nat) : List Byte := bytes16 (BitVec.ofNat 16 n)
def n24 (n : Nat) : List Byte := bytes24 (BitVec.ofNat 24 n)
def n32 (n : Nat) : List Byte := bytes32 (BitVec.ofNat 32 n)

/-- A flag: 0 clear, 1 set. -/
def flag (b : Bool) : List Byte := [if b then 1 else 0]

/-- A value or a mark in its place: a byte 1 before the value, a byte 0 before as many bytes of 0 (R163). -/
def marked {α : Type} (width : Nat) (bytes : α → List Byte) : Option α → List Byte
  | some v => 1 :: bytes v
  | none => 0 :: List.replicate width 0

/-- A list behind its number of entries (R163). -/
def listed {α : Type} (bytes : α → List Byte) (l : List α) : List Byte := n8 l.length ++ l.flatMap bytes

/-! ### Enumerated values, numbered from 0 in the order of their rules (R163) -/

def BoardState.code : BoardState → Nat
  | .cutting => 0 | .hanging => 1 | .claimed => 2 | .held => 3 | .loose => 4 | .bound => 5 | .inserting => 6
  | .verifying => 7 | .stowed => 8 | .rejected => 9 | .lost => 10 | .abandoned => 11

def TabState.code : TabState → Nat
  | .uncut => 0 | .granted => 1 | .cut => 2 | .suspect => 3

def PanelState.code : PanelState → Nat
  | .active _ => 1 | .draining => 2 | .finished => 3

def RecipeSlot.code : RecipeSlot → Nat
  | .empty => 0 | .opened _ => 1 | .valid _ => 2

def ReviewReason.code : ReviewReason → Nat
  | .suspectTab => 0 | .seatDoubt => 1

def DestinationWait.code : DestinationWait → Nat
  | .binFull => 0 | .noRoom => 1

def SpindleState.code : SpindleState → Nat
  | .stopped => 0 | .kick => 1 | .ramping => 2 | .atSpeed => 3 | .faulted => 4

def SpindleCause.code : SpindleCause → Nat
  | .kickTimeout => 0 | .settle => 1 | .strain => 2

def SlotState.code : SlotState → Nat
  | .empty => 0 | .reserved _ => 1 | .filled _ => 2 | .retired => 3 | .doubt _ => 4

def CellState.code : CellState → Nat
  | .unconfigured => 0 | .standby => 1 | .run => 2 | .hold => 3 | .park => 4

def FaultAction.code : FaultAction → Nat
  | .note => 0 | .hold => 1 | .park => 2

def SaveOutcome.code : SaveOutcome → Nat
  | .none => 0 | .done => 1 | .failed => 2

/-- A fixture: 0 none, 1 A, 2 B (R163). -/
def fixtureCode : Option Fixture → Nat
  | none => 0 | some .a => 1 | some .b => 2

/-- A destination: its first slot, 0 for REJECT (R163). -/
def Destination.code : Destination → Nat
  | .reject => 0 | .slot k => k

/-- The hold set as a mask, CELL in bit 0 to FAULT in bit 4 (log entry 18). -/
def HoldSet.mask (h : HoldSet) : Nat :=
  h.cell.toNat + 2 * h.router.toNat + 4 * h.pick.toNat + 8 * h.magazine.toNat + 16 * h.fault.toNat

def WaitReason.code : WaitReason → Nat
  | .notRun => 16 | .spindle => 17 | .bitWorn => 18 | .windowFull => 19 | .nothingEligible => 20 | .binFull => 21
  | .noRoom => 22

def RefusedReason.code : RefusedReason → Nat
  | .unknownRequest => 32 | .wrongPort => 33 | .badLength => 34 | .outOfRange => 35 | .wrongState => 36 | .busy => 37
  | .inUse => 38 | .tableFull => 39 | .hangFull => 40 | .limitBelowUse => 41 | .outOfOrder => 42 | .late => 43
  | .offTarget => 44 | .notHomed => 45 | .guardOpen => 46 | .manifestPending => 47 | .protectedStore => 48
  | .starting => 49

/-- The outcome byte (R162). -/
def Verdict.code : Verdict → Nat
  | .accepted => 0
  | .wait r => r.code
  | .refused r => r.code

/-! ### The answer frame (R159, R161) -/

/-- The bytes of an answer frame. -/
def AnswerFrame.bytes (f : AnswerFrame) : List Byte :=
  [f.answer.echo] ++ n8 f.answer.verdict.code ++ n8 f.summary ++ n8 f.answer.body.length ++ f.answer.body

/-- Byte n of a transaction on MISO: 0 when the frame is exhausted (R159). -/
def AnswerFrame.misoByte (f : AnswerFrame) (n : Nat) : Byte := f.bytes.getD n 0

/-- The answer frame of a port at a falling edge of select: the pending answer, or the empty ACCEPTED one, with the
attention summary (R159, R161). -/
def PortState.load (v : PortState) : AnswerFrame :=
  { answer := v.answer.getD { echo := 0, verdict := .accepted, body := [] }, summary := attentionSummary v.events }

/-! ### Bodies of the recipe and panel requests (R8, R17, R22) -/

def RecipeHeader.bytes (h : RecipeHeader) : List Byte := n8 h.boardCount ++ n16 h.rpm ++ n16 h.feed ++ n16 h.cutLimit

/-- A board definition, without its board index (R8, log entry 43). -/
def BoardDef.bytes (d : BoardDef) : List Byte :=
  n8 d.rank ++ n8 d.height ++ n16 d.pickX ++ n16 d.pickY ++ n8 d.tabCount

/-- A tab definition, without its board and tab index (R8, log entry 43). -/
def TabDef.bytes (d : TabDef) : List Byte := n8 d.role ++ n16 d.x ++ n16 d.y ++ n16 d.heading ++ n8 d.cutLength

/-- The four counts of a record (R15). -/
def Panel.countBytes (p : Panel) : List Byte := n32 p.stowed ++ n32 p.rejected ++ n32 p.lost ++ n32 p.abandoned

/-- The start position of a record, 1 the oldest (1.2). -/
def State.startPosition (s : State) (i : Fin 4) : Nat := s.panels.startOrder.idxOf i + 1

/-- PANEL_READ (R22). -/
def State.panelBody (s : State) (i : Fin 4) : List Byte :=
  match s.panels.records[i] with
  | none => n8 0
  | some p =>
      n8 p.state.code ++ n8 (fixtureCode p.state.fixture) ++ n8 (number4 p.recipe) ++ n32 p.serial
        ++ n32 (s.startPosition i) ++ p.countBytes

/-- BOARD_READ (R22). -/
def Board.bytes (board : Board) : List Byte :=
  n8 board.state.code ++ n8 board.rank ++ n8 board.height ++ flag board.xout ++ flag board.divert
    ++ n32 board.freeUncut ++ n32 board.holdUncut ++ marked 1 (fun r => n8 r.code) board.review
    ++ marked 1 (fun d => n8 d.code) board.destination ++ listed (fun st => n8 st.code) board.tabs

/-! ### Bodies of the scheduler and the tracker (R33, R44, R50, R61) -/

/-- A new grant, as NEXT_CUT answers it: every field but the status (R33). Its Z depth, feed and commanded rpm are
worked out by the part and come in no request, so each is "any other number" of R163, 4 bytes (log entry 38). -/
def Grant.bytes (g : Grant) : List Byte :=
  n8 g.tag ++ n32 g.serial ++ n8 (fixtureCode g.fixture) ++ n8 g.board ++ n8 g.tab ++ flag g.hold ++ n16 g.x ++ n16 g.y
    ++ n16 g.heading ++ n8 g.cutLength ++ n32 g.depth ++ n32 g.feed ++ n32 g.rpm

/-- A grant as WINDOW_READ shows it; status 0 is LIVE (R44). -/
def Grant.row (g : Grant) : List Byte :=
  n8 g.tag ++ n32 g.serial ++ n8 g.board ++ n8 g.tab ++ flag g.hold ++ flag (!g.live)

/-- WINDOW_READ (R44). -/
def State.windowBody (s : State) : List Byte :=
  let rows := match s.scheduler.window with
    | [] => []
    | g :: rest => g.row ++ ((s.scheduler.expiry.map fun t => n32 t.ms).getD []) ++ rest.flatMap Grant.row
  n8 s.scheduler.window.length ++ rows ++ n32 s.hangCommitted ++ n8 s.scheduler.hangLimit
    ++ marked 1 (fun i => n8 (number4 i)) s.servedPanel ++ n8 s.scheduler.tag ++ flag s.permitted

/-- The pick point of a located board, from its recipe (1.1). -/
def State.pickPoint (s : State) (l : Located) : List Byte :=
  match (s.recipeOf l.panel).bind (·.board l.index) with
  | some d => n16 d.pickX ++ n16 d.pickY
  | none => []

/-- The answer to a claim (R50, R51). -/
def State.claimBody (s : State) (l : Located) : List Byte :=
  n32 l.panel.serial ++ n8 (fixtureCode l.panel.state.fixture) ++ n8 l.index ++ n8 l.board.height ++ s.pickPoint l

/-- The claimed board as PICK_READ shows it (R61). -/
def State.claimedBytes (s : State) (l : Located) : List Byte :=
  n32 l.panel.serial ++ n8 (fixtureCode l.panel.state.fixture) ++ n8 l.index ++ n8 l.board.state.code
    ++ n8 l.board.height ++ s.pickPoint l ++ marked 1 (fun d => n8 d.code) l.board.destination
    ++ marked 1 (fun w => n8 w.code) s.gripper.wait

/-- Whether the board a name stands for is flagged (R19). -/
def State.isFlagged (s : State) (id : BoardId) : Bool := (s.locateId id).any (·.board.flagged)

/-- PICK_READ (R61). An empty claim is the mark of R163 in place of the board: a byte 0 and 16 bytes of 0 (log entry
39). -/
def State.pickBody (s : State) : List Byte :=
  marked 16 s.claimedBytes s.claimed
    ++ listed (fun id => n32 id.serial ++ n8 id.board ++ flag (s.isFlagged id)) s.gripper.queue

/-! ### Bodies of the bit wear unit and the spindle loop (R75, R94) -/

def BitParams.bytes (p : BitParams) : List Byte :=
  n8 p.levels ++ n32 p.span ++ n16 p.baseDepth ++ n8 p.levelStep ++ n32 p.derateStart ++ n32 p.endOfLife
    ++ n16 p.minFeed

/-- The recipe of the served panel (R23). -/
def State.servedRecipe (s : State) : Option Recipe :=
  (s.servedPanel.bind fun i => s.panels.records[i]).bind s.recipeOf

/-- The feed a grant issued now would receive: none while no panel is served or the bit is worn (R75). -/
def State.feedNow (s : State) : Option Nat :=
  if s.bit.worn then none else s.servedRecipe.map fun r => s.bit.grantFeed r.header.feed

/-- BIT_READ (R75). L and the Z depth are worked out from W by R68 also while the worn flag is set (log entry 40); the
feed then has its mark. -/
def State.bitBody (s : State) : List Byte :=
  let r := s.bit.record
  n32 r.serial ++ n32 r.wear ++ r.params.bytes ++ flag s.bit.worn ++ n8 s.bit.feedOverride
    ++ flag s.store.bitFlags.pending ++ n32 r.level ++ n32 r.depth ++ marked 4 n32 s.feedNow

/-- The last result with its mark: 0 none, 1 a count, 2 a stall (log entry 18). -/
def lastBytes : Option LastResult → List Byte
  | none => n8 0 ++ n32 0
  | some r => n8 (if r.stall then 2 else 1) ++ n32 r.count

/-- The measured rpm of a last result; a stall has none (R79), and neither has no result (log entry 45 for how
SPINDLE_READ shows that). -/
def State.shownRpm (s : State) : Option Nat :=
  match s.spindle.last with
  | none => none
  | some r => if r.stall then none else some (measuredRpm s.constants.spindle.sr r.count)

/-- The remaining time of the kick timer or of the settle timer, none when neither runs (R94; log entry 45 for how
SPINDLE_READ shows that). -/
def Spindle.remaining (sp : Spindle) : Option Nat :=
  match sp.kickTimer with
  | some t => some t.ms
  | none => sp.settleTimer.map (·.ms)

/-- SPINDLE_READ (R94). A measured rpm with none to show and a remaining time with no timer running are a byte 0 and 4
bytes of 0, for which R94 names no mark (log entry 45); the kick edge count is 0 outside KICK (log entry 21). -/
def State.spindleBody (s : State) : List Byte :=
  let sp := s.spindle
  n8 sp.state.code ++ n32 sp.duty ++ n16 sp.recipeRpm ++ n8 sp.override ++ n32 sp.commanded ++ n32 sp.reference
    ++ n32 s.target ++ n32 s.window ++ lastBytes sp.last ++ marked 4 n32 s.shownRpm
    ++ n32 (if sp.state = .kick then sp.kickEdges else 0) ++ n32 sp.strain ++ n32 sp.miss
    ++ marked 4 n32 sp.remaining ++ marked 1 (fun c => n8 c.code) sp.cause

/-! ### Bodies of the magazine map (R105, R106, R114) -/

def MagType.bytes (t : MagType) : List Byte := n8 t.slotCount ++ n24 t.pitch16 ++ bytes24 t.base ++ n16 t.tolerance

def BoardId.bytes (id : BoardId) : List Byte := n32 id.serial ++ n8 id.board

def ManifestEntry.bytes (e : ManifestEntry) : List Byte :=
  n32 e.stow ++ n8 e.first ++ n8 e.height ++ e.board.bytes

/-- The session part of the MAGAZINE_READ header: slots counted in the order of 6.3 (R114), five counts without a
count byte (log entry 46). -/
def Session.bytes (m : Session) : List Byte :=
  n32 m.tag ++ n8 m.typeNumber ++ m.type.bytes ++ flag m.condemned ++ marked 1 n8 m.full
    ++ [0, 1, 2, 3, 4].flatMap (fun c => n32 (m.countSlots fun st => st.code == c)) ++ n32 m.manifest.length
    ++ n32 m.stow

/-- MAGAZINE_READ of the header (R114). -/
def State.magazineHeader (s : State) : List Byte :=
  (match s.magazine.session with
    | none => flag false
    | some m => flag true ++ m.bytes)
    ++ n32 s.magazine.binCount ++ n8 s.magazine.binCapacity ++ n32 s.placesInUse ++ flag s.magazine.closed.isSome

/-- MAGAZINE_READ of a slot (R114). -/
def Slot.bytes (slot : Slot) : List Byte :=
  n8 slot.state.code ++ marked 5 BoardId.bytes slot.state.board ++ n32 slot.failures

/-- REGISTER_READ of an entry (R114). -/
def RegisterEntry.bytes (e : RegisterEntry) : List Byte :=
  n32 e.tag ++ n8 e.type ++ listed n8 e.retired ++ flag e.condemned

/-! ### Bodies of the elevator and insertion control (R129, R143) -/

/-- The nearest slot: 0 none, 1 a slot and its number, 2 BETWEEN (log entry 18). -/
def Nearest.bytes : Nearest → List Byte
  | .none => [0, 0]
  | .slot k => 1 :: n8 k
  | .between => [2, 0]

/-- ENCODER_READ (R129), without the position of a slot. The home preset in force is shown as the one of the working copy
(log entry 47). -/
def State.encoderBody (s : State) : List Byte :=
  let e := s.elevator
  bytes24 e.counter ++ flag e.homed ++ flag e.armed ++ flag (s.fault .encoderError).active ++ n32 e.illegalCount
    ++ bytes24 s.constants.homePreset ++ listed bytes24 e.captures ++ (s.nearest e.counter).bytes

/-- INSERT_READ (R143). -/
def State.insertBody (s : State) : List Byte :=
  let ins := s.insertion
  flag ins.permission ++ marked 1 n8 ins.confirmation
    ++ marked 7 (fun t : Target => t.id.bytes ++ n8 t.first ++ n8 t.state.code) s.targetBoard
    ++ flag s.slotWanted ++ flag s.slotReady
    ++ marked 8 (fun o : OpenInsertion => o.board.bytes ++ n8 o.first ++ n8 o.height ++ flag o.disturbed) ins.insertion
    ++ marked 10 (fun w : SettleWait => w.board.bytes ++ n8 w.first ++ n32 w.timer.ms) ins.wait

/-! ### Bodies of cell control, the ports and the store (R145, R155, R158, R165, R171, R172) -/

def FaultEntry.status (e : FaultEntry) : List Byte := n32 e.count ++ flag e.active ++ flag e.latched

/-- A fault table entry (R155, R156, R158). -/
def FaultEntry.bytes (e : FaultEntry) : List Byte := flag e.enabled ++ n8 e.action.code ++ flag e.latch ++ e.status

/-- STATUS_READ of kind 0 (R158). The last raised kind is its kind number, 1 to 12 (log
entry 48); the twelve kinds are a fixed run without a count byte (log entry 46). -/
def State.statusBody (s : State) : List Byte :=
  n8 s.cell.state.code ++ n8 s.cell.holds.mask ++ marked 4 (fun t : Timer => n32 t.ms) s.cell.parkTimer
    ++ flag s.lines.guard ++ flag s.permitted ++ marked 1 (fun k => n8 k.number) s.cell.lastRaised
    ++ allFaults.flatMap fun k => (s.fault k).status

/-- The store as every STORE_SAVE answers it (R171). The three records are a fixed run without a count byte (log entry
46); the record being written is its number, 1 to 3, behind a presence byte (log entry 49). -/
def State.storeBody (s : State) : List Byte :=
  [RecordId.constants, .bit, .register].flatMap (fun r =>
      let f := s.store.flags r
      flag f.pending ++ n8 f.outcome.code ++ flag f.foundValid)
    ++ marked 1 (fun w => n8 w.record.number) (s.store.writing) ++ flag s.store.writeProtect

/-- The four limits in force (R157). -/
def State.limitsBody (s : State) : List Byte :=
  n8 s.scheduler.hangLimit ++ n8 s.spindle.override ++ n8 s.bit.feedOverride ++ n8 s.magazine.binCapacity

end Sys2Proof.Machine
end

