-- ==== Sys2Proof/Machine/BitWear.lean ====
section
/-! DEFINITION. BIT_CHANGE and BIT_SETUP (4.4). -/

namespace Sys2Proof.Machine

/-- The bit may be changed or set up: STANDBY or PARK, with an empty window (R72, R73). -/
def State.bitAccess (s : State) : Bool :=
  (s.cell.state == .standby || s.cell.state == .park) && s.scheduler.window.isEmpty

/-- A bit mounted: BIT_WORN ends, and a BIT save is queued (R72). -/
def State.mountBit (s : State) (serial wear : Nat) : State :=
  let t := { s with bit := { s.bit with record := { s.bit.record with serial := serial, wear := wear }, worn := false } }
  (t.endCondition .bitWorn).queueSave .bit

/-- BIT_CHANGE (R72). -/
def execBitChange (p : Port) (serial wear : Word32) (s : State) : Result :=
  .next (s.request p 27 fun s =>
    if s.bit.record.params.endOfLife ≤ wear.toNat then refuse s .outOfRange
    else if !s.bitAccess then refuse s .wrongState
    else
      accept s (s.mountBit serial.toNat wear.toNat) fun t => n32 t.bit.record.serial ++ n32 t.bit.record.wear)

/-- The seven parameters replaced, and a BIT save queued (R73). -/
def State.setupBit (s : State) (params : BitParams) : State :=
  { s with bit := { s.bit with record := { s.bit.record with params := params } } }.queueSave .bit

/-- BIT_SETUP (R73). -/
def execBitSetup (p : Port) (levels : Byte) (span : Word32) (baseDepth : Word16) (levelStep : Byte)
    (derateStart endOfLife : Word32) (minFeed : Word16) (s : State) : Result :=
  .next (s.request p 28 fun s =>
    let params : BitParams :=
      { levels := levels.toNat, span := span.toNat, baseDepth := baseDepth.toNat, levelStep := levelStep.toNat,
        derateStart := derateStart.toNat, endOfLife := endOfLife.toNat, minFeed := minFeed.toNat }
    if !params.inRange then refuse s .outOfRange
    else if !s.bitAccess || s.bit.worn then refuse s .wrongState
    else if params.endOfLife ≤ s.bit.record.wear then refuse s .limitBelowUse
    else accept s (s.setupBit params) fun t => t.bit.record.params.bytes)

end Sys2Proof.Machine
end

