-- ==== Sys2Proof/Machine/Ports.lean ====
section
/-! DEFINITION. The commands of the ports themselves: NOOP, the event set, select and the frames that are no request. -/

namespace Sys2Proof.Machine

/-- NOOP: answered ACCEPTED, and nothing else (R161). -/
def execNoop (p : Port) (s : State) : Result := .next (s.request p 0 fun s => respond s [])

/-- The place of the highest-priority pending kind (R165). -/
def firstPending (p : Port) (events : Byte) : Option Nat :=
  (List.range (portKinds p).length).find? fun i => events.getLsbD i

/-- TAKE_EVENT (R165). -/
def execTakeEvent (p : Port) (s : State) : Result :=
  .next (s.request p 1 fun s =>
    let events := (s.port p).events
    let (kind, left) := match firstPending p events with
      | some i => (i + 1, events &&& ~~~(1#8 <<< i))
      | none => (0, events)
    let t := s.modifyPort p fun v => { v with events := left }
    respond t (n8 kind ++ [left, (s.port p).enabled]))

/-- SET_ATTENTION (R166). -/
def execSetAttention (p : Port) (mask : Byte) (s : State) : Result :=
  .next (s.request p 2 fun s =>
    if mask &&& ~~~(allKinds p) != 0 then refuse s .outOfRange
    else respond (s.modifyPort p fun v => { v with enabled := mask }) [mask, (s.port p).events])

/-- SELECT_FALLS: a transaction begins, and the pending answer is consumed (R159, R161, R167; log entry 5). -/
def execSelectFalls (p : Port) (s : State) : Result :=
  match (s.port p).line with
  | .transaction _ => .next s
  | .idle | .ignored => .next (s.modifyPort p fun v => { v with answer := none, line := .transaction v.load })

/-- The end of a transaction whose bytes are no request for a block (R160, R162, R163). -/
def State.endBadFrame (s : State) (p : Port) (code : Byte) (judged : RefusedReason) (portFits : Bool)
    (afterStarting : Bool) : State :=
  if (s.port p).line = .ignored then s.modifyPort p fun v => { v with line := .idle }
  else if !portFits then s.refuseAtPort p code .wrongPort
  else if afterStarting && s.starting then s.refuseAtPort p code .starting
  else s.refuseAtPort p code judged

/-- BAD_LENGTH (R160, R162; log entry 26). -/
def execBadLength (p : Port) (bytes : List Byte) (s : State) : Result :=
  match judgeFrame p bytes with
  | .request _ => .refused .notThisCommand
  | .incomplete => .next (s.endBadFrame p (byteAt bytes 0) .badLength true false)
  | .unknown => .next (s.endBadFrame p (byteAt bytes 0) .unknownRequest true false)
  | .wrongLength fits => .next (s.endBadFrame p (byteAt bytes 0) .badLength fits false)
  | .unnamedValue fits => .next (s.endBadFrame p (byteAt bytes 0) .outOfRange fits true)

/-- UNKNOWN_REQUEST (R162; log entry 26). -/
def execUnknownRequest (p : Port) (code : Byte) (s : State) : Result :=
  match requestRow code.toNat with
  | some _ => .refused .notThisCommand
  | none => .next (s.endBadFrame p code .unknownRequest true false)

end Sys2Proof.Machine
end

