-- ==== Sys2Proof/Machine/Panels.lean ====
section
/-! DEFINITION. The panel requests of the cell port (1.2 to 1.5) and DIVERT (3.5). -/

namespace Sys2Proof.Machine

/-- A new board record (R12, R13). -/
def newBoard (d : BoardDef) (item : BoardItem) (xout : Bool) : Board :=
  let roles := (List.range' 1 d.tabCount).map fun t => (item.tab t).any (·.role == 1)
  let free := roles.count false
  { rank := d.rank, height := d.height, xout := xout, state := if free = 0 then .hanging else .cutting,
    freeUncut := free, holdUncut := roles.count true, review := none, destination := none, divert := false,
    tabs := List.replicate d.tabCount .uncut }

/-- The board records of a recipe's panel (R12, R13). -/
def Recipe.newBoards (r : Recipe) (xouts : List Nat) : List Board :=
  (r.items.zipIdx 1).filterMap fun (item, b) => item.definition.map fun d => newBoard d item (xouts.contains b)

/-- The indices of the boards that start in HANGING, ascending (R12). -/
def hangingBoards (boards : List Board) : List Nat :=
  ((boards.zipIdx 1).filter fun (board, _) => board.state == .hanging).map (·.2)

/-- The panel that an accepted PANEL_START makes in a record (R12). -/
def State.startPanel (s : State) (i : Fin 4) (f : Fixture) (slot : Fin 4) (serial : Nat) (boards : List Board) : State :=
  let hanging := (hangingBoards boards).map fun b => ({ serial := serial, board := b } : BoardId)
  let panel : Panel := { state := .active f, recipe := slot, serial := serial, boards := boards, stowed := 0,
                         rejected := 0, lost := 0, abandoned := 0 }
  let t := s.setRecord i (some panel)
  let u := { t with panels := { t.panels with startOrder := t.panels.startOrder ++ [i] }
                    gripper := { t.gripper with queue := t.gripper.queue ++ hanging } }
  u.postIf (!hanging.isEmpty) .pick .boardHanging

/-- PANEL_START's checks 2 to 8, in order (R11). -/
def State.panelStart (s : State) (f : Fixture) (slot : Fin 4) (serial : Nat) (xouts : List Nat) : State × Reply :=
  if s.cell.state = .unconfigured then refuse s .wrongState
  else if (s.recordOnFixture f).isSome then refuse s .inUse
  else if (s.recordOfSerial serial).isSome then refuse s .inUse
  else
    match s.recipes[slot] with
    | .empty | .opened _ => refuse s .wrongState
    | .valid r =>
        if xouts.any fun x => decide (x < 1 ∨ r.header.boardCount < x) then refuse s .outOfRange
        else
          match allRecords.find? fun i => s.panels.records[i].isNone with
          | none => refuse s .tableFull
          | some i =>
              let boards := r.newBoards xouts
              if s.scheduler.hangLimit < s.hangCommitted + (hangingBoards boards).length then refuse s .hangFull
              else accept s (s.startPanel i f slot serial boards) fun t => n8 (number4 i) ++ n32 (t.startPosition i)

/-- PANEL_START (R11, R12). A list of more than 24 indices fits no body (R162). -/
def execPanelStart (p : Port) (fixture slot : Byte) (serial : Word32) (xouts : List Byte) (s : State) : Result :=
  if 24 < xouts.length then .next (s.endBadFrame p 22 .badLength (allowed 22 p) false)
  else
    .next (s.request p 22 fun s =>
      match fixtureOf fixture, fin4 slot.toNat with
      | some f, some i => s.panelStart f i serial.toNat (xouts.map (·.toNat))
      | some _, none => refuse s .outOfRange
      | none, _ => refuse s .outOfRange)

/-- Every attached board ABANDONED, with the count (R15, R18). -/
def Panel.abandon (p : Panel) : Panel :=
  { p with boards := p.boards.map fun board => if board.state.attached then { board with state := .abandoned } else board
           abandoned := p.abandoned + (p.boards.filter fun board => board.state.attached).length }

/-- The claim emptied, with CLAIM_ENDED, when it names an attached board of this record (R18, R47). -/
def State.endClaimOf (s : State) (i : Fin 4) : State :=
  match s.claimed with
  | some l => if l.record = i ∧ l.board.state.attached = true then s.emptyClaim.post .pick .claimEnded else s
  | none => s

/-- An ACTIVE record's panel aborted (R18). -/
def State.abortPanel (s : State) (i : Fin 4) (panel : Panel) : State :=
  let t := (s.endClaimOf i).revoke fun g => g.serial == panel.serial
  let u := { t with gripper := { t.gripper with queue := t.gripper.queue.filter (·.serial != panel.serial) } }
  (u.modifyPanel i Panel.abandon).reexamine i

/-- PANEL_ABORT (R18). -/
def execPanelAbort (p : Port) (sel : Selector) (s : State) : Result :=
  .next (s.request p 23 fun s =>
    match s.selected sel with
    | none => refuse s .outOfRange
    | some i =>
        match s.panels.records[i] with
        | none => refuse s .outOfRange
        | some panel =>
            if panel.state.isActive then
              accept s (s.abortPanel i panel) fun t =>
                match t.panels.records[i] with
                | some q => n8 q.state.code
                | none => n8 0
            else refuse s .wrongState)

/-- A record becomes FREE and leaves the start order (R9, R17). -/
def State.freeRecord (s : State) (i : Fin 4) : State :=
  let t := s.setRecord i none
  { t with panels := { t.panels with startOrder := t.panels.startOrder.filter (· != i) } }

/-- PANEL_RESULT (R17). -/
def execPanelResult (p : Port) (serial : Word32) (s : State) : Result :=
  .next (s.request p 24 fun s =>
    match (s.recordOfSerial serial.toNat).bind fun i => (s.panels.records[i]).map fun panel => (i, panel) with
    | none => refuse s .outOfRange
    | some (i, panel) =>
        if panel.state ≠ .finished ∨ (s.scheduler.window.any fun g => g.serial == panel.serial) = true then
          refuse s .wrongState
        else accept s (s.freeRecord i) fun _ => n32 panel.serial ++ panel.countBytes)

/-- A tab that a RESOLVE_TAB names (R10, R20). -/
def State.suspectTab (s : State) (sel : Selector) (board tab : Nat) (k : Located → State × Reply) : State × Reply :=
  match s.locateSelected sel board with
  | none => refuse s .outOfRange
  | some l =>
      match nth1 l.board.tabs tab with
      | none => refuse s .outOfRange
      | some st => if st = .suspect then k l else refuse s .wrongState

/-- RESOLVE_TAB with UNCUT (R20). -/
def execResolveTabUncut (p : Port) (sel : Selector) (board tab : Byte) (s : State) : Result :=
  .next (s.request p 25 fun s =>
    s.suspectTab sel board.toNat tab.toNat fun l =>
      accept s (s.setTab l.record l.index tab.toNat .uncut) fun _ => [])

/-- The state of a board after a change, as an answer carries it. -/
def State.boardCode (s : State) (l : Located) : List Byte :=
  match s.locate l.record l.index with
  | some m => n8 m.board.state.code
  | none => []

/-- RESOLVE_TAB with CUT (R21). -/
def execResolveTabCut (p : Port) (sel : Selector) (board tab : Byte) (s : State) : Result :=
  .next (s.request p 25 fun s =>
    s.suspectTab sel board.toNat tab.toNat fun l => accept s (s.cutTab l tab.toNat) fun t => t.boardCode l)

/-- DIVERT on a board whose flag is clear: the flag is set, and a BOUND board loses its slots (R59). -/
def State.divertBoard (s : State) (l : Located) : State :=
  let t := s.modifyBoard l.record l.index fun board => { board with divert := true }
  match l.board.state, l.board.destination with
  | .bound, some (.slot _) => t.loosen l
  | _, _ => t

/-- DIVERT (R59). -/
def execDivert (p : Port) (sel : Selector) (board : Byte) (s : State) : Result :=
  .next (s.request p 26 fun s =>
    match s.locateSelected sel board.toNat with
    | none => refuse s .outOfRange
    | some l =>
        if l.board.state.terminal then refuse s .wrongState
        else if l.board.divert then respond s (n8 l.board.state.code)
        else accept s (s.divertBoard l) fun t => t.boardCode l)

end Sys2Proof.Machine
end

