-- ==== Sys2Proof/Machine/Picking.lean ====
section
/-! DEFINITION. The requests that act on the pick claim (3.3, 3.4). -/

namespace Sys2Proof.Machine

/-- A hanging board claimed (R46, R48, R50, R51). -/
def State.claimBoard (s : State) (l : Located) : State :=
  let t := (s.unqueue l.id).moveBoard l.record l.index .claimed
  { t with gripper := { t.gripper with claim := some l.id } }

/-- The first unflagged board of the queue that a test holds of (R50). -/
def State.walkQueue (s : State) (test : Located → Bool) : Option Located :=
  (s.gripper.queue.filterMap s.locateId).find? fun l => !l.board.flagged && test l

/-- The board CLAIM_NEXT chooses: of the served panel first, then of any (R50). -/
def State.nextClaim (s : State) : Option Located :=
  match s.walkQueue fun l => s.servedPanel == some l.record with
  | some l => some l
  | none => s.walkQueue fun _ => true

/-- CLAIM_NEXT (R50). -/
def execClaimNext (p : Port) (s : State) : Result :=
  .next (s.request p 56 fun s =>
    if s.gripper.claim.isSome then refuse s .busy
    else
      match s.nextClaim with
      | none => waitFor s .nothingEligible
      | some l => accept s (s.claimBoard l) fun _ => s.claimBody l)

/-- CLAIM (R51). -/
def execClaim (p : Port) (serial : Word32) (board : Byte) (s : State) : Result :=
  .next (s.request p 57 fun s =>
    match s.locateId { serial := serial.toNat, board := board.toNat } with
    | none => refuse s .outOfRange
    | some l =>
        if s.gripper.claim.isSome then refuse s .busy
        else if l.board.state ≠ .hanging ∨ l.board.flagged = true then refuse s .wrongState
        else accept s (s.claimBoard l) fun _ => s.claimBody l)

/-- The checks of R49: the board exists, and the claim names it. -/
def State.onClaim (s : State) (serial : Word32) (board : Byte) (k : Located → State × Reply) : State × Reply :=
  match s.locateId { serial := serial.toNat, board := board.toNat } with
  | none => refuse s .outOfRange
  | some l => if s.gripper.claim = some l.id then k l else refuse s .wrongState

/-- GRIPPED (R52). -/
def execGripped (p : Port) (serial : Word32) (board : Byte) (s : State) : Result :=
  .next (s.request p 58 fun s =>
    s.onClaim serial board fun l =>
      if l.board.state = .claimed then accept s (s.moveBoard l.record l.index .held) fun _ => []
      else refuse s .wrongState)

/-- An attached claimed board returned to the head of the queue, its hold-tab grants revoked (R53). -/
def State.releaseBoard (s : State) (l : Located) : State :=
  let t := s.emptyClaim.moveBoard l.record l.index .hanging
  { t with gripper := { t.gripper with queue := l.id :: t.gripper.queue } }.revoke fun g =>
    g.hold && g.serial == l.id.serial && g.board == l.id.board

/-- RELEASE (R53). -/
def execRelease (p : Port) (serial : Word32) (board : Byte) (s : State) : Result :=
  .next (s.request p 59 fun s =>
    s.onClaim serial board fun l =>
      if l.board.state = .claimed ∨ l.board.state = .held then accept s (s.releaseBoard l) fun _ => []
      else refuse s .wrongState)

/-- The destination wait set or removed (R57). -/
def State.setWait (s : State) (w : Option DestinationWait) : State := { s with gripper := { s.gripper with wait := w } }

/-- A board bound to a destination (R54, R55). -/
def State.bindBoard (s : State) (l : Located) (d : Destination) : State :=
  ((s.setDestination l.record l.index (some d)).moveBoard l.record l.index .bound).setWait none

/-- A destination and, for a slot, the height class (R54, R55). -/
def Board.destinationBody (board : Board) (d : Destination) : List Byte :=
  match d with
  | .reject => n8 0
  | .slot k => n8 k ++ n8 board.height

/-- DESTINATION for a LOOSE board that goes to the bin (R54). -/
def State.bindToBin (s : State) (l : Located) : State × Reply :=
  if s.magazine.binCount < s.magazine.binCapacity then
    accept s (s.bindBoard l .reject) fun _ => l.board.destinationBody .reject
  else conclude s (s.setWait (some .binFull)) (.wait .binFull) fun _ => []

/-- An allocation request that found no run (R55, R101). -/
def State.noRun (s : State) (h : Nat) : State :=
  match s.magazine.session with
  | some _ => s.markFull h
  | none => s.post .magazine .unloadWanted

/-- DESTINATION for a LOOSE board that goes to the magazine (R55, R101). -/
def State.bindToSlot (s : State) (l : Located) : State × Reply :=
  match s.runFor l.board.height with
  | some k =>
      let t := s.modifySession fun m => m.setRun k l.board.height (.reserved l.id)
      accept s (t.bindBoard l (.slot k)) fun _ => l.board.destinationBody (.slot k)
  | none => conclude s ((s.noRun l.board.height).setWait (some .noRoom)) (.wait .noRoom) fun _ => []

/-- DESTINATION (R54 to R57). A BOUND board is answered the destination it holds in the form of its first answer, with
the height class for a slot (R56; log entry 41). -/
def execDestination (p : Port) (serial : Word32) (board : Byte) (s : State) : Result :=
  .next (s.request p 60 fun s =>
    s.onClaim serial board fun l =>
      match l.board.state, l.board.destination with
      | .loose, _ => if l.board.toBin then s.bindToBin l else s.bindToSlot l
      | .bound, some d => respond s (l.board.destinationBody d)
      | _, _ => refuse s .wrongState)

/-- A bin count that has just become equal to the capacity raises REJECT_FULL (R110; log entry 17). -/
def State.raiseIfFull (s : State) : State :=
  if s.magazine.binCount = s.magazine.binCapacity then s.raise .rejectFull else s

/-- A board dropped into the bin (R58). -/
def State.rejectPlaced (s : State) (l : Located) : State :=
  let t := { s with magazine := { s.magazine with binCount := s.magazine.binCount + 1 } }
  (t.emptyClaim.moveBoard l.record l.index .rejected).raiseIfFull

/-- REJECT_PLACED (R58). -/
def execRejectPlaced (p : Port) (serial : Word32) (board : Byte) (s : State) : Result :=
  .next (s.request p 61 fun s =>
    s.onClaim serial board fun l =>
      if l.board.state = .bound ∧ l.board.destination = some .reject then accept s (s.rejectPlaced l) fun _ => []
      else refuse s .wrongState)

end Sys2Proof.Machine
end

