-- ==== Sys2Proof/Machine/Cell.lean ====
section
/-! DEFINITION. Holds, cell states, faults, limits, status and the guard (9.1 to 9.5). -/

namespace Sys2Proof.Machine

/-- HOLD_SET (R145). -/
def execHoldSet (p : Port) (s : State) : Result :=
  .next (s.request p 3 fun s => accept s (s.setHolds (s.cell.holds.setPort p true)) fun t => n8 t.cell.holds.mask)

/-- HOLD_CLEAR (R145). -/
def execHoldClear (p : Port) (s : State) : Result :=
  .next (s.request p 4 fun s => accept s (s.setHolds (s.cell.holds.setPort p false)) fun t => n8 t.cell.holds.mask)

/-- The cell state, as an answer carries it. -/
def State.cellBody (s : State) : List Byte := n8 s.cell.state.code

/-- RUN or HOLD by the hold set, and START to the spindle loop (R148, R151). -/
def State.goToWork (s : State) : State := (if s.cell.holds.isEmpty then s.enterRun else s.enterHold).start

/-- The checks of the guard and of the spindle, and the start (R148, R151). -/
def State.tryWork (s : State) : State × Reply :=
  if !s.lines.guard then refuse s .guardOpen
  else if s.spindle.state = .faulted then refuse s .wrongState
  else accept s s.goToWork State.cellBody

/-- CELL_START (R148). -/
def execCellStart (p : Port) (s : State) : Result :=
  .next (s.request p 35 fun s => if s.cell.state = .standby then s.tryWork else refuse s .wrongState)

/-- CELL_PARK (R149). -/
def execCellPark (p : Port) (s : State) : Result :=
  .next (s.request p 36 fun s =>
    match s.cell.state with
    | .run | .hold => accept s s.enterPark State.cellBody
    | .park => respond s s.cellBody
    | .unconfigured | .standby => refuse s .wrongState)

/-- CELL_RESUME (R151). -/
def execCellResume (p : Port) (s : State) : Result :=
  .next (s.request p 37 fun s => if s.cell.state = .park then s.tryWork else refuse s .wrongState)

/-- CELL_STOP (R152). -/
def execCellStop (p : Port) (s : State) : Result :=
  .next (s.request p 38 fun s =>
    match s.cell.state with
    | .run | .hold | .park => accept s s.enterStandby State.cellBody
    | .standby => respond s s.cellBody
    | .unconfigured => refuse s .wrongState)

/-- A response replaced; a persistent kind switched on while its condition is active is raised (R155). -/
def State.setResponse (s : State) (k : FaultKind) (enable : Bool) (action : FaultAction) (latch : Bool) : State :=
  let t := (s.modifyFault k fun e => { e with enabled := enable, action := action, latch := latch }).reevaluateFault
  if enable && !(s.fault k).enabled && k.persistent && (s.fault k).active then t.raise k else t

/-- FAULT_RESPONSE (R155, R163). -/
def execFaultResponse (p : Port) (kind enable action latch : Byte) (s : State) : Result :=
  .next (s.request p 39 fun s =>
    match actionOf action, faultOf kind.toNat with
    | some act, some k =>
        if s.cell.state = .run then refuse s .wrongState
        else accept s (s.setResponse k (enable != 0) act (latch != 0)) fun t => (t.fault k).bytes
    | some _, none => refuse s .outOfRange
    | none, _ => refuse s .outOfRange)

/-- A latched status cleared (R156). -/
def State.clearLatch (s : State) (k : FaultKind) : State :=
  (s.modifyFault k fun e => { e with latched := false }).reevaluateFault

/-- FAULT_CLEAR (R156). -/
def execFaultClear (p : Port) (kind : Byte) (s : State) : Result :=
  .next (s.request p 40 fun s =>
    match faultOf kind.toNat with
    | none => refuse s .outOfRange
    | some k => accept s (s.clearLatch k) fun t => (t.fault k).bytes)

/-- The bin capacity replaced, with REJECT_FULL raised or ended by the change (R110, R112; log entry 17). -/
def State.setCapacity (s : State) (n : Nat) : State :=
  let t := { s with magazine := { s.magazine with binCapacity := n } }
  if n = s.magazine.binCount then (if s.magazine.binCapacity = s.magazine.binCount then t else t.raise .rejectFull)
  else if (s.fault .rejectFull).active then t.endCondition .rejectFull
  else t

/-- The four limits put in force (R157). -/
def State.putLimits (s : State) (hang speed feed bin : Nat) : State :=
  let t := { s with scheduler := { s.scheduler with hangLimit := hang }, bit := { s.bit with feedOverride := feed } }
  (t.retarget t.spindle.recipeRpm speed).setCapacity bin

/-- SET_LIMITS (R27, R71, R81, R112, R157). -/
def execSetLimits (p : Port) (hang speed feed bin : Byte) (s : State) : Result :=
  .next (s.request p 41 fun s =>
    let limit := min 8 hang.toNat
    if hang = 0 then refuse s .outOfRange
    else if limit < s.hangCommitted then refuse s .limitBelowUse
    else if bin = 0 then refuse s .outOfRange
    else if bin.toNat < s.placesInUse then refuse s .limitBelowUse
    else
      accept s (s.putLimits limit (clamp 50 120 speed.toNat) (clamp 25 150 feed.toNat) bin.toNat) State.limitsBody)

/-- STATUS_READ (R158). -/
def execStatusRead (p : Port) (kind : Byte) (s : State) : Result :=
  .next (s.request p 42 fun s =>
    if kind = 0 then respond s s.statusBody
    else
      match faultOf kind.toNat with
      | none => refuse s .outOfRange
      | some k => respond s (s.fault k).bytes)

/-- PARK_TIMER (R147, R149; log entry 2). -/
def execParkTimer (s : State) : Result :=
  .next (s.event fun s => match s.cell.parkTimer with
    | some _ => s.enterPark
    | none => s)

/-- The guard opens: the spindle stops, and RUN and HOLD park (R150). -/
def State.openGuard (s : State) : State :=
  ({ s with lines := { s.lines with guard := false } }.stopSpindle).parkIfActive

/-- GUARD_OPENS: nothing when the line is low already (R150; log entry 25). -/
def execGuardOpens (s : State) : Result := .next (s.event fun s => if s.lines.guard then s.openGuard else s)

/-- GUARD_CLOSES: the level, and nothing else (R150). -/
def execGuardCloses (s : State) : Result :=
  .next (s.event fun s => { s with lines := { s.lines with guard := true } })

end Sys2Proof.Machine
end

