-- ==== Sys2Proof/Machine/Cutting.lean ====
section
/-! DEFINITION. The router's requests and the grant's expiry (2.4 to 2.7). -/

namespace Sys2Proof.Machine

/-- The tag after a tag: 255 is followed by 1 (R33). -/
def nextTag (tag : Nat) : Nat := if tag = 255 then 1 else tag + 1

/-- The grant for a chosen tab, from its definition and its panel's recipe (R33, R67). -/
def State.newGrant (s : State) (c : Choice) (d : TabDef) (r : Recipe) : Grant :=
  { tag := s.scheduler.tag, serial := c.panel.serial, fixture := c.panel.state.fixture, board := c.board, tab := c.tab,
    hold := c.hold, x := d.x, y := d.y, heading := d.heading, cutLength := d.cutLength, depth := s.bit.record.depth,
    feed := s.bit.grantFeed r.header.feed, rpm := s.spindle.commanded, live := true }

/-- A grant appended to the window; into an empty window it is the oldest, and its timer is loaded (R32 to R34). -/
def State.issue (s : State) (c : Choice) (g : Grant) : State :=
  let t := s.setTab c.record c.board c.tab .granted
  { t with scheduler := { t.scheduler with
             window := t.scheduler.window ++ [g], tag := nextTag t.scheduler.tag,
             expiry := if t.scheduler.window.isEmpty then t.loadExpiry g else t.scheduler.expiry } }

/-- NEXT_CUT (R30). -/
def execNextCut (p : Port) (s : State) : Result :=
  .next (s.request p 48 fun s =>
    if s.cell.state ≠ .run then waitFor s .notRun
    else if s.spindle.state ≠ .atSpeed then waitFor s .spindle
    else if s.bit.worn then waitFor s .bitWorn
    else if 2 ≤ s.scheduler.window.length then waitFor s .windowFull
    else
      match s.chooseTab with
      | none => waitFor s .nothingEligible
      | some c =>
          match s.tabDef c.panel c.board c.tab, s.recipeOf c.panel with
          | some d, some r =>
              let g := s.newGrant c d r
              accept s (s.issue c g) fun _ => g.bytes
          | _, _ => waitFor s .nothingEligible)

/-- The check of a report's tag against the window (R35). -/
def State.reported (s : State) (tag : Nat) (k : Grant → State × Reply) : State × Reply :=
  match s.scheduler.window with
  | [] => refuse s .late
  | g :: rest =>
      if g.tag = tag then k g
      else if rest.any (·.tag == tag) then refuse s .outOfOrder
      else refuse s .late

/-- The board and tab of a grant, changed unless the board is ABANDONED (R37, R39). -/
def State.settleCut (s : State) (g : Grant) (f : State → Located → State) : State :=
  match s.locateId { serial := g.serial, board := g.board } with
  | none => s
  | some l => if l.board.state = .abandoned then s else f s l

/-- The tab's and the board's state, as the answer to a report carries them (R35). -/
def State.reportBody (s : State) (g : Grant) : List Byte :=
  match s.locateId { serial := g.serial, board := g.board } with
  | none => []
  | some l =>
      match nth1 l.board.tabs g.tab with
      | some st => n8 st.code ++ n8 l.board.state.code
      | none => []

/-- An accepted CUT_DONE (R35 to R38): the grant leaves, the bit is charged, the tab and board follow. -/
def State.cutDone (s : State) (g : Grant) : State :=
  (s.dropOldest.addWear g.cutLength).settleCut g fun t l => t.cutTab l g.tab

/-- CUT_DONE (R35 to R38). -/
def execCutDone (p : Port) (tag : Byte) (s : State) : Result :=
  .next (s.request p 49 fun s => s.reported tag.toNat fun g => accept s (s.cutDone g) fun t => t.reportBody g)

/-- An accepted CUT_ABORT with its clamped length (R39). -/
def State.cutAbort (s : State) (g : Grant) (length : Nat) : State :=
  (s.dropOldest.addWear length).settleCut g fun t l => t.setTab l.record l.index g.tab .uncut

/-- CUT_ABORT (R35, R39). -/
def execCutAbort (p : Port) (tag length : Byte) (s : State) : Result :=
  .next (s.request p 50 fun s =>
    s.reported tag.toNat fun g =>
      let n := min length.toNat g.cutLength
      accept s (s.cutAbort g n) fun t => n8 n ++ t.reportBody g)

/-- The oldest grant's timer has run out (R40). -/
def State.expire (s : State) (g : Grant) : State :=
  let t := s.dropOldest
  let u := match t.locateId { serial := g.serial, board := g.board } with
    | some l => t.setTab l.record l.index g.tab .suspect
    | none => t
  (u.post .cell .reviewNeeded).raise .grantExpired

/-- GRANT_EXPIRY (R40; log entry 2). -/
def execGrantExpiry (s : State) : Result :=
  .next (s.event fun s =>
    match s.scheduler.window, s.scheduler.expiry with
    | g :: _, some _ => s.expire g
    | _, none => s
    | [], _ => s)

end Sys2Proof.Machine
end

