-- ==== Sys2Proof/Machine/Elevator.lean ====
section
/-! DEFINITION. The elevator's lines and the handler's moves (7.1, 7.2, 7.4, 8.2, 8.3). -/

namespace Sys2Proof.Machine

/-- Homing armed (R119, R122). -/
def State.armHoming (s : State) : State :=
  let t := { s with elevator := { s.elevator with armed := true, homed := false } }
  if s.elevator.homed then t.withdraw else t

/-- HOME_BEGIN (R119). -/
def execHomeBegin (p : Port) (s : State) : Result :=
  .next (s.request p 74 fun s =>
    if s.insertion.insertion.isSome then refuse s .busy
    else if s.elevator.armed then respond s (bytes24 s.elevator.counter)
    else accept s s.armHoming fun _ => bytes24 s.elevator.counter)

/-- The move permission granted (R134; log entry 14). -/
def State.beginMove (s : State) : State :=
  let t := { s with insertion := { s.insertion with permission := true } }.withdraw
  t.postIf s.boundSlot.isSome .magazine .positionWanted

/-- MOVE_BEGIN (R134). -/
def execMoveBegin (p : Port) (s : State) : Result :=
  .next (s.request p 75 fun s =>
    if s.insertion.insertion.isSome then refuse s .busy else accept s s.beginMove fun _ => [])

/-- The permission ended and the confirmation withdrawn, as every arrival does (R135). -/
def State.endMove (s : State) : State :=
  { s with insertion := { s.insertion with permission := false } }.withdraw

/-- The slot confirmed, and SLOT_READY posted (R135; log entry 14). -/
def State.confirm (s : State) (k : Nat) : State :=
  { s with insertion := { s.insertion with confirmation := some k } }.post .pick .slotReady

/-- ARRIVED's checks 1 to 4 after the permission has ended (R135). -/
def State.judgeArrival (s t : State) : State × Reply :=
  match t.boundSlot, t.magazine.session with
  | some k, some m =>
      let c := t.elevator.counter
      let diff := c - m.type.pos k
      if !t.elevator.homed then conclude s t (.refused .notHomed) fun _ => []
      else if !m.type.near c k then conclude s t (.refused .offTarget) fun _ => bytes24 diff
      else accept s (t.confirm k) fun _ => n8 k ++ bytes24 c ++ bytes24 diff
  | some _, none => conclude s t (.refused .wrongState) fun _ => []
  | none, _ => conclude s t (.refused .wrongState) fun _ => []

/-- ARRIVED (R135). -/
def execArrived (p : Port) (s : State) : Result :=
  .next (s.request p 76 fun s =>
    if s.insertion.insertion.isSome then refuse s .busy else s.judgeArrival s.endMove)

/-- NEXT_POSITION (R133). -/
def execNextPosition (p : Port) (s : State) : Result :=
  .next (s.request p 77 fun s =>
    match s.targetBoard, s.magazine.session with
    | some t, some m =>
        respond s (n8 t.first ++ n8 t.height ++ bytes24 (m.type.pos t.first) ++ n16 m.type.tolerance
          ++ flag (s.insertion.confirmation == some t.first))
    | some _, none => waitFor s .nothingEligible
    | none, _ => waitFor s .nothingEligible)

/-- Encoder line levels after a sample. -/
def State.setEncoder (s : State) (a b : Bool) : State := { s with lines := { s.lines with encoderA := a, encoderB := b } }

/-- A change of one line counts up or down: up when A comes to differ from B, or B to equal A (R116). -/
def countsUp (oldA oldB a b : Bool) : Bool := if a != oldA then a != oldB else b == oldA

/-- A legal transition (R116, R136, R138). -/
def State.countTransition (s : State) (a b : Bool) : State :=
  let c := s.elevator.counter
  let next := if countsUp s.lines.encoderA s.lines.encoderB a b then c + 1 else c - 1
  { s.setEncoder a b with elevator := { s.elevator with counter := next } }.counterMoved

/-- An illegal transition (R117, R136, R138, R141): the error, then the confirmation and the insertion, then the wait. -/
def State.illegal (s : State) (a b : Bool) : State :=
  let n := min 255 (s.elevator.illegalCount + 1)
  let t := { s.setEncoder a b with elevator := { s.elevator with illegalCount := n, homed := false } }
  let u := if (s.fault .encoderError).active then t else (t.raise .encoderError).post .magazine .homingNeeded
  u.withdraw.disturb.endWait fun t l _ => t.doubt l

/-- ENCODER_TRANSITION with the new levels of A and B (R116; log entry 6). -/
def execEncoderTransition (a b : Bool) (s : State) : Result :=
  .next (s.event fun s =>
    if a = s.lines.encoderA ∧ b = s.lines.encoderB then s
    else if a ≠ s.lines.encoderA ∧ b ≠ s.lines.encoderB then s.illegal a b
    else s.countTransition a b)

/-- ILLEGAL_TRANSITION: both lines have changed (R117; log entry 6). -/
def execIllegalTransition (s : State) : Result :=
  .next (s.event fun s => s.illegal (!s.lines.encoderA) (!s.lines.encoderB))

/-- The completion of homing (R121). -/
def State.completeHoming (s : State) : State :=
  let t := { s with elevator := { s.elevator with counter := s.constants.homePreset, homed := true, armed := false } }
  (if (s.fault .encoderError).active then t.endCondition .encoderError else t).counterMoved

/-- REFERENCE_EDGE (R120, R121; log entry 8). -/
def execReferenceEdge (s : State) : Result :=
  .next (s.event fun s =>
    let t := { s with lines := { s.lines with reference := true } }
    if s.elevator.armed then t.completeHoming else t)

/-- The seat sensor's edge: a capture, which ends a settle wait by verification with the older one, or an overflow (R126,
R127, R141). -/
def State.seatEdge (s : State) : State :=
  if s.elevator.captures.length < 2 then
    let t := { s with elevator := { s.elevator with captures := s.elevator.captures ++ [s.elevator.counter] } }
    match t.elevator.captures with
    | c :: _ => t.endWait fun u l w => u.verify l w.first w.height c
    | [] => t
  else s.raise .captureOverflow

/-- SEAT_SENSOR_EDGE (R126; log entry 8). -/
def execSeatSensorEdge (s : State) : Result :=
  .next (s.event fun s => { s with lines := { s.lines with seat := true } }.seatEdge)

/-- SEAT_SETTLE_TIMEOUT (R141; log entry 2). -/
def execSeatSettleTimeout (s : State) : Result := .next (s.event fun s => s.endWait fun t l _ => t.doubt l)

end Sys2Proof.Machine
end

