-- ==== Sys2Proof/Machine/Insertions.lean ====
section
/-! DEFINITION. The insertion requests of the pick port (8.4). -/

namespace Sys2Proof.Machine

/-- An insertion opened (R128, R137). -/
def State.openInsertion (s : State) (l : Located) (k : Nat) : State :=
  let t := s.moveBoard l.record l.index .inserting
  { t with elevator := { t.elevator with captures := [] }
           insertion := { t.insertion with
             insertion := some { board := l.id, first := k, height := l.board.height, disturbed := false } } }

/-- INSERT_BEGIN (R137). -/
def execInsertBegin (p : Port) (serial : Word32) (board : Byte) (s : State) : Result :=
  .next (s.request p 62 fun s =>
    s.onClaim serial board fun l =>
      match l.board.state, l.board.destination with
      | .bound, some (.slot k) =>
          if s.insertion.permission then refuse s .busy
          else if s.insertion.wait.isSome then refuse s .busy
          else if s.insertion.confirmation ≠ some k then refuse s .wrongState
          else accept s (s.openInsertion l k) fun _ => n8 k ++ bytes24 s.elevator.counter
      | _, _ => refuse s .wrongState)

/-- The open insertion closed. -/
def State.closeInsertion (s : State) : State := { s with insertion := { s.insertion with insertion := none } }

/-- A diverted board that is still BOUND to its slot goes to LOOSE (R60). -/
def State.divertIfBound (s : State) (id : BoardId) : State :=
  match s.locateId id with
  | some l => if l.board.state = .bound ∧ l.board.divert = true then s.loosen l else s
  | none => s

/-- An insertion ended by drawing the board back (R60, R107, R139). -/
def State.drawBack (s : State) (l : Located) (k : Nat) : State :=
  ((s.closeInsertion.moveBoard l.record l.index .bound).seatFailure k).divertIfBound l.id

/-- The seat failure count of a slot, as an answer carries it (R139). -/
def State.failureBytes (s : State) (k : Nat) : List Byte :=
  match s.magazine.session.bind fun m => nth1 m.slots k with
  | some slot => n32 slot.failures
  | none => []

/-- The answer to an aborted insertion (R139). -/
def State.drawBackBody (s : State) (l : Located) (k : Nat) : List Byte :=
  match s.locate l.record l.index with
  | some m => n8 m.board.state.code ++ (if m.board.state = .bound then n8 k else []) ++ s.failureBytes k
  | none => []

/-- INSERT_END aborted (R139). -/
def execInsertEndAborted (p : Port) (serial : Word32) (board : Byte) (s : State) : Result :=
  .next (s.request p 63 fun s =>
    s.onClaim serial board fun l =>
      match l.board.state, l.board.destination with
      | .inserting, some (.slot k) => accept s (s.drawBack l k) fun t => t.drawBackBody l k
      | _, _ => refuse s .wrongState)

/-- An insertion ended by letting go of the board (R47, R140). -/
def State.letGo (s : State) (l : Located) (k : Nat) : State :=
  let t := (s.closeInsertion.moveBoard l.record l.index .verifying).emptyClaim
  if s.insertion.insertion.any (·.disturbed) then t.doubt l
  else
    match s.elevator.captures with
    | c :: _ => t.verify l k l.board.height c
    | [] =>
        { t with insertion := { t.insertion with
                   wait := some { board := l.id, first := k, height := l.board.height,
                                  timer := Timer.load s.constants.seatSettle } } }

/-- The answer to a seated insertion: STOWED with its slot, or VERIFYING with 0 for a wait and 1 for a doubt (R140; log
entry 18). -/
def State.letGoBody (s : State) (l : Located) : List Byte :=
  match s.locate l.record l.index with
  | some m =>
      n8 m.board.state.code ++
        (if m.board.state = .stowed then
          ((s.magazine.session.bind fun u => u.manifest.getLast?).map fun e => n8 e.first).getD []
        else flag s.insertion.wait.isNone)
  | none => []

/-- INSERT_END seated (R140). -/
def execInsertEndSeated (p : Port) (serial : Word32) (board : Byte) (s : State) : Result :=
  .next (s.request p 63 fun s =>
    s.onClaim serial board fun l =>
      match l.board.state, l.board.destination with
      | .inserting, some (.slot k) => accept s (s.letGo l k) fun t => t.letGoBody l
      | _, _ => refuse s .wrongState)

end Sys2Proof.Machine
end

