-- ==== Sys2Proof/Machine/Magazine.lean ====
section
/-! DEFINITION. The requests on the magazine map, the manifest and the bin (6.3 to 6.10). -/

namespace Sys2Proof.Machine

/-- The register when a tag is loaded with a type: touched with the type, appended, or appended in place of the head
(R97, R98). -/
def fileTag (r : List RegisterEntry) (tag type : Nat) : List RegisterEntry :=
  if r.any (·.tag == tag) then touchEntry (r.map fun e => if e.tag = tag then { e with type := type } else e) tag
  else
    let fresh : RegisterEntry := { tag := tag, type := type, retired := [], condemned := false }
    if r.length < 16 then r ++ [fresh] else r.tail ++ [fresh]

/-- A session as it opens for a register entry (R99). -/
def openSession (tag typeNumber : Nat) (type : MagType) (retired : List Nat) (condemned : Bool) : Session :=
  { tag := tag, typeNumber := typeNumber, type := type, condemned := condemned,
    slots := (List.range' 1 type.slotCount).map fun k =>
      { state := if retired.contains k then .retired else .empty, failures := 0 },
    manifest := [], stow := 1, full := none }

/-- An accepted MAG_LOADED: the register, the session, and the full mark where nothing can be allocated (R98, R99). -/
def State.loadMagazine (s : State) (tag typeNumber : Nat) (type : MagType) : State :=
  let register := fileTag s.magazine.register tag typeNumber
  let entry := register.find? (·.tag == tag)
  let m := openSession tag typeNumber type ((entry.map (·.retired)).getD []) (entry.any (·.condemned))
  let t := s.setRegister register
  let u := { t with magazine := { t.magazine with session := some m } }
  if m.condemned || m.slots.all (·.state != .empty) then u.markFull 1 else u

/-- MAG_LOADED (R98). -/
def execMagLoaded (p : Port) (tag : Word32) (type : Byte) (s : State) : Result :=
  .next (s.request p 72 fun s =>
    match fin4 type.toNat with
    | none => refuse s .outOfRange
    | some i =>
        if s.magazine.session.isSome then refuse s .inUse
        else if s.magazine.closed.isSome then refuse s .manifestPending
        else
          accept s (s.loadMagazine tag.toNat type.toNat s.constants.types[i]) fun t =>
            match t.magazine.session with
            | some m => n8 m.type.slotCount ++ n32 (m.countSlots (· == .retired)) ++ flag m.condemned
            | none => [])

/-- A RESERVED or DOUBT slot (R105). -/
def SlotState.unsettled : SlotState → Bool
  | .reserved _ => true
  | .doubt _ => true
  | .empty => false
  | .filled _ => false
  | .retired => false

/-- An accepted MAG_UNLOAD (R105): the manifest is closed, the entry touched, the confirmation gone with the session. -/
def State.unloadMagazine (s : State) (m : Session) : State :=
  let t := s.withdraw.setRegister (touchEntry s.magazine.register m.tag)
  { t with magazine := { t.magazine with
             session := none
             closed := some { tag := m.tag, typeNumber := m.typeNumber, entries := m.manifest } } }.post .cell
    .manifestReady

/-- MAG_UNLOAD (R105). -/
def execMagUnload (p : Port) (s : State) : Result :=
  .next (s.request p 73 fun s =>
    match s.magazine.session with
    | none => refuse s .wrongState
    | some m =>
        if (m.slots.any fun slot => slot.state.unsettled) || s.insertion.insertion.isSome then refuse s .busy
        else accept s (s.unloadMagazine m) fun _ => n32 m.manifest.length)

/-- The finding ABSENT: the run is EMPTY, the board LOST, and its first slot has failed once more (R107, R109). -/
def State.resolveAbsent (s : State) (l : Located) (k : Nat) : State :=
  let t := s.modifySession fun m => m.restate (.doubt l.id) .empty
  ((t.moveBoard l.record l.index .lost).review l.record l.index).seatFailure k

/-- The board a DOUBT slot names (6.3). -/
def SlotState.doubtFor : SlotState → Option BoardId
  | .doubt id => some id
  | .empty => none
  | .reserved _ => none
  | .filled _ => none
  | .retired => none

/-- The board in doubt whose run begins at slot k (R109). -/
def Session.doubtAt (m : Session) (k : Nat) : Option BoardId :=
  let here := fun n => (nth1 m.slots n).bind fun slot => slot.state.doubtFor
  if here (k - 1) = here k then none else here k

/-- RESOLVE_SLOT: finding 0 PRESENT, 1 ABSENT (R109, R163). -/
def execResolveSlot (p : Port) (slot finding : Byte) (s : State) : Result :=
  .next (s.request p 30 fun s =>
    if 1 < finding.toNat then refuse s .outOfRange
    else
      match s.magazine.session with
      | none => refuse s .wrongState
      | some m =>
          if slot.toNat < 1 ∨ m.type.slotCount < slot.toNat then refuse s .outOfRange
          else
            match (m.doubtAt slot.toNat).bind s.locateId with
            | none => refuse s .wrongState
            | some l =>
                accept s (if finding = 0 then s.stow l slot.toNat else s.resolveAbsent l slot.toNat) fun t =>
                  l.id.bytes ++ t.boardCode l)

/-- MANIFEST_READ (R106). -/
def execManifestRead (p : Port) (index : Byte) (s : State) : Result :=
  .next (s.request p 31 fun s =>
    match s.magazine.closed with
    | none => refuse s .wrongState
    | some c =>
        if index = 0 then respond s (n32 c.tag ++ n8 c.typeNumber ++ n32 c.entries.length)
        else
          match nth1 c.entries index.toNat with
          | none => refuse s .outOfRange
          | some e => respond s e.bytes)

/-- MANIFEST_RELEASE (R106). -/
def execManifestRelease (p : Port) (s : State) : Result :=
  .next (s.request p 32 fun s =>
    match s.magazine.closed with
    | none => refuse s .wrongState
    | some _ => accept s { s with magazine := { s.magazine with closed := none } } fun _ => [])

/-- The bin emptied (R111). -/
def State.emptyBin (s : State) : State :=
  let t := { s with magazine := { s.magazine with binCount := 0 } }
  if (s.fault .rejectFull).active then t.endCondition .rejectFull else t

/-- BIN_EMPTIED (R111). -/
def execBinEmptied (p : Port) (s : State) : Result :=
  .next (s.request p 33 fun s => accept s s.emptyBin fun _ => n32 s.magazine.binCount)

/-- REGISTER_REPAIR (R113). -/
def execRegisterRepair (p : Port) (tag : Word32) (s : State) : Result :=
  .next (s.request p 34 fun s =>
    if !(s.magazine.register.any (·.tag == tag.toNat)) then refuse s .outOfRange
    else if s.magazine.session.any (·.tag == tag.toNat) then refuse s .inUse
    else accept s (s.modifyEntry tag.toNat fun e => { e with retired := [], condemned := false }) fun _ => [])

end Sys2Proof.Machine
end

