-- ==== Sys2Proof/Machine/Reads.lean ====
section
/-! DEFINITION. The read requests of every port. They change nothing. -/

namespace Sys2Proof.Machine

/-- PANEL_READ (R22). -/
def execPanelRead (p : Port) (record : Byte) (s : State) : Result :=
  .next (s.request p 5 fun s =>
    match fin4 record.toNat with
    | none => refuse s .outOfRange
    | some i => respond s (s.panelBody i))

/-- BOARD_READ (R10, R22). -/
def execBoardRead (p : Port) (sel : Selector) (board : Byte) (s : State) : Result :=
  .next (s.request p 6 fun s =>
    match s.locateSelected sel board.toNat with
    | none => refuse s .outOfRange
    | some l => respond s l.board.bytes)

/-- WINDOW_READ (R44). -/
def execWindowRead (p : Port) (s : State) : Result := .next (s.request p 7 fun s => respond s s.windowBody)

/-- PICK_READ (R61). -/
def execPickRead (p : Port) (s : State) : Result := .next (s.request p 8 fun s => respond s s.pickBody)

/-- BIT_READ (R75). -/
def execBitRead (p : Port) (s : State) : Result := .next (s.request p 9 fun s => respond s s.bitBody)

/-- SPINDLE_READ (R94). -/
def execSpindleRead (p : Port) (s : State) : Result := .next (s.request p 10 fun s => respond s s.spindleBody)

/-- MAGAZINE_READ: part 0 the header, 1 a slot, 2 an entry (R114, R163). -/
def execMagazineRead (p : Port) (part index : Byte) (s : State) : Result :=
  .next (s.request p 11 fun s =>
    if 2 < part.toNat then refuse s .outOfRange
    else if part = 0 then respond s s.magazineHeader
    else
      match s.magazine.session with
      | none => refuse s .wrongState
      | some m =>
          match if part = 1 then (nth1 m.slots index.toNat).map Slot.bytes
                else (nth1 m.manifest index.toNat).map ManifestEntry.bytes with
          | none => refuse s .outOfRange
          | some body => respond s body)

/-- REGISTER_READ (R114). -/
def execRegisterRead (p : Port) (position : Byte) (s : State) : Result :=
  .next (s.request p 12 fun s =>
    let n := n32 s.magazine.register.length
    if position = 0 then respond s n
    else
      match nth1 s.magazine.register position.toNat with
      | none => refuse s .outOfRange
      | some e => respond s (e.bytes ++ n))

/-- ENCODER_READ (R129). -/
def execEncoderRead (p : Port) (slot : Byte) (s : State) : Result :=
  .next (s.request p 13 fun s =>
    if slot = 0 then respond s s.encoderBody
    else
      match s.magazine.session with
      | none => refuse s .wrongState
      | some m =>
          if m.type.slotCount < slot.toNat then refuse s .outOfRange
          else respond s (s.encoderBody ++ bytes24 (m.type.pos slot.toNat)))

/-- INSERT_READ (R143). -/
def execInsertRead (p : Port) (s : State) : Result := .next (s.request p 14 fun s => respond s s.insertBody)

end Sys2Proof.Machine
end

