-- ==== Sys2Proof/Machine/Recipes.lean ====
section
/-! DEFINITION. The recipe requests (1.1). -/

namespace Sys2Proof.Machine

/-- A recipe slot is in use while a non-FREE record names it (R2). -/
def State.recipeInUse (s : State) (i : Fin 4) : Bool := (s.findRecord (·.recipe == i)).isSome

/-- A recipe slot replaced. -/
def State.setRecipe (s : State) (i : Fin 4) (r : RecipeSlot) : State := { s with recipes := s.recipes.set i r }

/-- RECIPE_OPEN (R3). -/
def execRecipeOpen (p : Port) (slot boardCount : Byte) (rpm feed cutLimit : Word16) (s : State) : Result :=
  .next (s.request p 16 fun s =>
    match fin4 slot.toNat with
    | none => refuse s .outOfRange
    | some i =>
        let n := boardCount.toNat
        if n < 1 ∨ 48 < n then refuse s .outOfRange
        else if s.recipeInUse i then refuse s .inUse
        else
          let header : RecipeHeader :=
            { boardCount := n, rpm := rpm.toNat, feed := feed.toNat, cutLimit := cutLimit.toNat }
          accept s (s.setRecipe i (.opened { header := header, items := List.replicate n BoardItem.blank })) fun _ => [])

/-- An item of an OPEN slot rewritten: the checks of the slot, its state and the board index (R4, R5). -/
def State.editItem (s : State) (slot board : Nat) (f : BoardItem → BoardItem) : State × Reply :=
  match fin4 slot with
  | none => refuse s .outOfRange
  | some i =>
      match s.recipes[i] with
      | .opened r =>
          if board < 1 ∨ r.header.boardCount < board then refuse s .outOfRange
          else accept s (s.setRecipe i (.opened { r with items := modify1 r.items board f })) fun _ => []
      | .empty | .valid _ => refuse s .wrongState

/-- RECIPE_BOARD (R4). -/
def execRecipeBoard (p : Port) (slot board rank height : Byte) (pickX pickY : Word16) (tabCount : Byte) (s : State) :
    Result :=
  .next (s.request p 17 fun s =>
    s.editItem slot.toNat board.toNat fun item =>
      { item with definition := some { rank := rank.toNat, height := height.toNat, pickX := pickX.toNat,
                                       pickY := pickY.toNat, tabCount := tabCount.toNat } })

/-- A tab definition stored under an index 1..8 (R5). -/
def BoardItem.setTab (item : BoardItem) (t : Nat) (d : TabDef) : BoardItem :=
  if h : 1 ≤ t ∧ t ≤ 8 then { item with tabs := item.tabs.set (t - 1) (some d) } else item

/-- The state of a slot and the board index are checked before the tab index (R5). -/
def State.editTab (s : State) (slot board tab : Nat) (d : TabDef) : State × Reply :=
  match fin4 slot with
  | none => refuse s .outOfRange
  | some i =>
      match s.recipes[i] with
      | .opened _ =>
          if tab < 1 ∨ 8 < tab then refuse s .outOfRange else s.editItem slot board fun item => item.setTab tab d
      | .empty | .valid _ => refuse s .wrongState

/-- RECIPE_TAB (R5). -/
def execRecipeTab (p : Port) (slot board tab role : Byte) (x y heading : Word16) (cutLength : Byte) (s : State) :
    Result :=
  .next (s.request p 18 fun s =>
    s.editTab slot.toNat board.toNat tab.toNat
      { role := role.toNat, x := x.toNat, y := y.toNat, heading := heading.toNat, cutLength := cutLength.toNat })

/-- The failure kinds of RECIPE_CLOSE (R6). -/
inductive CloseFailure where
  | value | missing | noHold
  deriving DecidableEq, Repr

def CloseFailure.code : CloseFailure → Nat
  | .value => 0 | .missing => 1 | .noHold => 2

/-- Check 1 of R6. -/
def RecipeHeader.inRange (h : RecipeHeader) : Bool :=
  decide ((6000 ≤ h.rpm ∧ h.rpm ≤ 60000) ∧ (1 ≤ h.feed ∧ h.feed ≤ 1000) ∧ (100 ≤ h.cutLimit ∧ h.cutLimit ≤ 60000))

/-- Check 2d of R6. -/
def TabDef.inRange (d : TabDef) : Bool :=
  decide (d.role ≤ 1 ∧ d.heading ≤ 359 ∧ 5 ≤ d.cutLength ∧ d.cutLength ≤ 250)

/-- Checks 2c and 2d of R6 on tab t of board i. -/
def BoardItem.tabFailure (item : BoardItem) (i t : Nat) : Option (Nat × Nat × CloseFailure) :=
  match item.tab t with
  | none => some (i, t, .missing)
  | some d => if d.inRange then none else some (i, t, .value)

/-- Checks 2a to 2e of R6 on board i. -/
def BoardItem.failure (item : BoardItem) (i : Nat) : Option (Nat × Nat × CloseFailure) :=
  match item.definition with
  | none => some (i, 0, .missing)
  | some d =>
      if !decide ((d.height = 1 ∨ d.height = 2) ∧ 1 ≤ d.tabCount ∧ d.tabCount ≤ 8) then some (i, 0, .value)
      else
        match (List.range' 1 d.tabCount).findSome? (item.tabFailure i) with
        | some f => some f
        | none =>
            if (List.range' 1 d.tabCount).any fun t => (item.tab t).any (·.role == 1) then none
            else some (i, 0, .noHold)

/-- The first failing check of R6. -/
def Recipe.failure (r : Recipe) : Option (Nat × Nat × CloseFailure) :=
  if !r.header.inRange then some (0, 0, .value)
  else (r.items.zipIdx 1).findSome? fun (item, i) => item.failure i

/-- Tab definitions above the tab count discarded (R6). -/
def BoardItem.trim (item : BoardItem) : BoardItem :=
  { item with tabs := item.tabs.mapIdx fun n d => if n < (item.definition.map (·.tabCount)).getD 0 then d else none }

/-- RECIPE_CLOSE (R6). -/
def execRecipeClose (p : Port) (slot : Byte) (s : State) : Result :=
  .next (s.request p 19 fun s =>
    match fin4 slot.toNat with
    | none => refuse s .outOfRange
    | some i =>
        match s.recipes[i] with
        | .opened r =>
            match r.failure with
            | some (b, t, kind) => (s, { verdict := .refused .outOfRange, body := n8 b ++ n8 t ++ n8 kind.code })
            | none => accept s (s.setRecipe i (.valid { r with items := r.items.map BoardItem.trim })) fun _ => []
        | .empty | .valid _ => refuse s .wrongState)

/-- RECIPE_ERASE (R7). -/
def execRecipeErase (p : Port) (slot : Byte) (s : State) : Result :=
  .next (s.request p 20 fun s =>
    match fin4 slot.toNat with
    | none => refuse s .outOfRange
    | some i => if s.recipeInUse i then refuse s .inUse else accept s (s.setRecipe i .empty) fun _ => [])

/-- What RECIPE_READ shows behind the slot state (R8); a definition stands without the board and tab index that the
request names (log entry 43). -/
def Recipe.readBody (r : Recipe) (inUse : Bool) (board tab : Nat) : List Byte :=
  if board = 0 then flag inUse ++ r.header.bytes
  else if tab = 0 then marked 7 BoardDef.bytes (r.board board)
  else marked 8 TabDef.bytes (r.tab board tab)

/-- RECIPE_READ (R8). -/
def execRecipeRead (p : Port) (slot board tab : Byte) (s : State) : Result :=
  .next (s.request p 21 fun s =>
    match fin4 slot.toNat with
    | none => refuse s .outOfRange
    | some i =>
        if 48 < board.toNat ∨ 8 < tab.toNat then refuse s .outOfRange
        else
          respond s (n8 s.recipes[i].code ++ match s.recipes[i].contents with
            | none => []
            | some r => r.readBody (s.recipeInUse i) board.toNat tab.toNat))

end Sys2Proof.Machine
end

