-- ==== Sys2Proof/Machine/Resets.lean ====
section
/-! DEFINITION. What the resets leave: the start of power-on and pin reset, their completion when the start-up read
ends, and the soft reset. -/

namespace Sys2Proof.Machine

/-- The blocks that every reset empties: panel table, grant window, tracker, spindle loop, session, closed manifest, bin
count, elevator, insertion control, hold set and fault table statuses (R9, R45, R62, R71, R95, R115, R130, R131, R145,
R147, R153). -/
def State.emptyBlocks (s : State) : State :=
  { s with
    panels := { records := Vector.replicate 4 none, startOrder := [] }
    scheduler := { s.scheduler with window := [], expiry := none, tag := 1 }
    gripper := { claim := none, queue := [], wait := none }
    bit := { s.bit with feedOverride := 100 }
    spindle := Spindle.reset
    magazine := { s.magazine with session := none, closed := none, binCount := 0 }
    elevator := { counter := 0, homed := false, armed := false, captures := [], illegalCount := 0 }
    insertion := { permission := false, confirmation := none, insertion := none, wait := none }
    cell := { s.cell with holds := .empty, parkTimer := none, lastRaised := none
                          faults := s.cell.faults.map fun e => { e with count := 0, active := false, latched := false } } }

/-- The event set after a reset: RESET_DONE alone (R167, R168). -/
def resetEvents (p : Port) : Byte := kindBit p .resetDone

/-- A port at power-on and pin reset: a select that is low is ignored until it rises (R167, log entry 32). -/
def PortState.hardReset (v : PortState) (p : Port) : PortState :=
  { answer := none, line := if v.line = .idle then .idle else .ignored, events := resetEvents p, enabled := allKinds p }

/-- A port at soft reset; its transaction goes on (R168). -/
def PortState.softReset (v : PortState) (p : Port) : PortState :=
  { v with answer := none, events := resetEvents p, enabled := allKinds p }

/-- The event and enable sets when a power-on or pin reset completes; answers of the start-up read stay (R167, log
entry 12). -/
def PortState.complete (v : PortState) (p : Port) : PortState :=
  { v with events := resetEvents p, enabled := allKinds p }

/-- Every port changed. -/
def State.mapPorts (s : State) (f : PortState → Port → PortState) : State :=
  { s with ports := { cell := f s.ports.cell .cell, router := f s.ports.router .router, pick := f s.ports.pick .pick,
                      magazine := f s.ports.magazine .magazine } }

/-- The limits set from the working copy of CONSTANTS (R27, R110). -/
def State.defaultLimits (s : State) : State :=
  { s with scheduler := { s.scheduler with hangLimit := s.constants.defaultHangLimit }
           magazine := { s.magazine with binCapacity := s.constants.defaultBinCapacity } }

/-- The start of a power-on or pin reset (R1, R153, R167, R169, R173): everything but the stored records and the line
levels takes its reset value, and the start-up read begins. A write in progress leaves its record without a marker
(R170). -/
def State.beginReset (s : State) : State :=
  let t := ({ s with recipes := Vector.replicate 4 .empty, constants := Constants.builtIn,
                     bit := { record := BitRecord.builtIn, worn := false, feedOverride := 100 },
                     magazine := { s.magazine with register := [] },
                     store := { s.store with constantsFlags := .clear, bitFlags := .clear, registerFlags := .clear,
                                             writing := none },
                     starting := true }.emptyBlocks.defaultLimits).mapPorts PortState.hardReset
  { t with cell := { t.cell with state := .unconfigured, faults := defaultFaults } }

/-- A magazine type is in range (6.1, R172). -/
def MagType.inRange (t : MagType) : Bool :=
  decide ((1 ≤ t.slotCount ∧ t.slotCount ≤ 60) ∧ (16 ≤ t.pitch16 ∧ t.pitch16 ≤ 1048575)
    ∧ (1 ≤ t.tolerance ∧ t.tolerance ≤ 4095))

/-- SR is 1, 2, 4 or 8 and keeps the target counts in 64..65,534 (R80). -/
def srAllowed (sr : Nat) : Bool :=
  (sr == 1 || sr == 2 || sr == 4 || sr == 8) && decide (targetCount sr 6000 ≤ 65534 ∧ 64 ≤ targetCount sr 60000)

/-- The spindle constants are in range (5.6, R80, R172). -/
def SpindleConstants.inRange (k : SpindleConstants) : Bool :=
  srAllowed k.sr && (k.kickTimeout == 500 || k.kickTimeout == 1000 || k.kickTimeout == 2000 || k.kickTimeout == 4000)
    && decide ((1 ≤ k.band ∧ k.band ≤ 32) ∧ (1 ≤ k.coarseStep ∧ k.coarseStep ≤ 64) ∧ k.kickDuty ≤ 1023
      ∧ k.startDuty ≤ 1023 ∧ (10 ≤ k.rampRate ∧ k.rampRate ≤ 2000) ∧ (1 ≤ k.settleLimit ∧ k.settleLimit ≤ 60)
      ∧ (1 ≤ k.missDepth ∧ k.missDepth ≤ 8) ∧ (1 ≤ k.stallDepth ∧ k.stallDepth ≤ 8))

/-- The fields of section 6 are in range (R172); the home preset takes every signed 24-bit value. -/
def cellFieldsInRange (parkDelay seatSettle hangLimit binCapacity : Nat) : Bool :=
  decide (parkDelay ≤ 600 ∧ (10 ≤ seatSettle ∧ seatSettle ≤ 500) ∧ (1 ≤ hangLimit ∧ hangLimit ≤ 8)
    ∧ (1 ≤ binCapacity ∧ binCapacity ≤ 255))

/-- The contents of a CONSTANTS record pass the field checks of every section (R173). -/
def Constants.inRange (c : Constants) : Bool :=
  c.types.toList.all (·.inRange) && c.spindle.inRange
    && cellFieldsInRange c.parkDelay c.seatSettle c.defaultHangLimit c.defaultBinCapacity

/-- A list of numbers is strictly ascending. -/
def ascending : List Nat → Bool
  | [] => true
  | [_] => true
  | x :: y :: rest => decide (x < y) && ascending (y :: rest)

/-- No number stands in the list twice. -/
def distinct : List Nat → Bool
  | [] => true
  | x :: rest => !rest.contains x && distinct rest

/-- A register entry as R173 checks it. -/
def RegisterEntry.inRange (e : RegisterEntry) : Bool :=
  decide (1 ≤ e.type ∧ e.type ≤ 4) && decide (e.retired.length ≤ 8) && ascending e.retired
    && e.retired.all fun k => decide (1 ≤ k ∧ k ≤ 60)

/-- The contents of a REGISTER record are valid (R173). -/
def registerInRange (r : List RegisterEntry) : Bool :=
  decide (r.length ≤ 16) && distinct (r.map (·.tag)) && r.all (·.inRange)

/-- The CONSTANTS record is valid (R173). -/
def Store.constantsValid (st : Store) : Bool := st.constants.marker && st.constants.contents.inRange

/-- The BIT record is valid (R64, R173). -/
def Store.bitValid (st : Store) : Bool := st.bit.marker && st.bit.contents.params.inRange

/-- The REGISTER record is valid (R173). -/
def Store.registerValid (st : Store) : Bool := st.register.marker && registerInRange st.register.contents

/-- After any reset a worn bit raises BIT_WORN (R64). -/
def State.raiseWorn (s : State) : State := if s.bit.worn then s.raise .bitWorn else s

/-- The completion of a power-on or pin reset with the first samples of the lines (R64, R122, R144, R150, R167, R171,
R173). -/
def State.completeReset (s : State) (lines : Lines) : State :=
  let st := s.store
  let constants := if st.constantsValid then st.constants.contents else Constants.builtIn
  let record := if st.bitValid then st.bit.contents else BitRecord.builtIn
  let flags := fun (f : SaveFlags) (valid : Bool) => { f with foundValid := valid }
  let t := { s with
    constants := constants
    bit := { s.bit with record := record, worn := decide (record.params.endOfLife ≤ record.wear) }
    magazine := { s.magazine with register := if st.registerValid then st.register.contents else [] }
    cell := { s.cell with state := if st.constantsValid then CellState.standby else .unconfigured }
    store := { st with constantsFlags := flags st.constantsFlags st.constantsValid
                       bitFlags := flags st.bitFlags st.bitValid
                       registerFlags := flags st.registerFlags st.registerValid
                       writeProtect := lines.writeProtect }
    lines := { encoderA := lines.encoderA, encoderB := lines.encoderB, reference := lines.reference,
               seat := lines.seat, guard := lines.guard }
    starting := false }
  ((t.defaultLimits.mapPorts PortState.complete).post .magazine .homingNeeded).raiseWorn

/-- The soft reset (R1, R64, R122, R144, R153, R168, R174); the line levels stay, as its first samples (log entry 7). -/
def State.softReset (s : State) : State :=
  let t := (s.emptyBlocks.defaultLimits).mapPorts PortState.softReset
  let u := { t with cell := { t.cell with state := if s.cell.state = CellState.unconfigured then CellState.unconfigured else .standby } }
  (u.post .magazine .homingNeeded).raiseWorn

end Sys2Proof.Machine
end

