-- ==== Sys2Proof/Machine/Settings.lean ====
section
/-! DEFINITION. CONSTANTS_WRITE, STORE_SAVE, the end of a store write, and the resets (11.1 to 11.3). -/

namespace Sys2Proof.Machine

/-- The working copy with one section replaced, if every field is in range (R80, R172). -/
def Constants.replace (c : Constants) : ConstantsSection → Option Constants
  | .magazineType n count pitch base tolerance =>
      let type : MagType :=
        { slotCount := count.toNat, pitch16 := pitch.toNat, base := base, tolerance := tolerance.toNat }
      match fin4 n.toNat with
      | some i => if type.inRange then some { c with types := c.types.set i type } else none
      | none => none
  | .spindle sr band coarse kickDuty kickTimeout startDuty rampRate settle miss stall =>
      let k : SpindleConstants :=
        { sr := sr.toNat, band := band.toNat, coarseStep := coarse.toNat, kickDuty := kickDuty.toNat,
          kickTimeout := kickTimeout.toNat, startDuty := startDuty.toNat, rampRate := rampRate.toNat,
          settleLimit := settle.toNat, missDepth := miss.toNat, stallDepth := stall.toNat }
      if k.inRange then some { c with spindle := k } else none
  | .cell preset park seat hang bin =>
      if cellFieldsInRange park.toNat seat.toNat hang.toNat bin.toNat then
        some { c with homePreset := preset, parkDelay := park.toNat, seatSettle := seat.toNat,
                      defaultHangLimit := hang.toNat, defaultBinCapacity := bin.toNat }
      else none
  | .unnamed _ => none

/-- The section is outside 1..6 (R172). -/
def sectionOutside (f : ConstantsSection) : Bool := f.number == 0 || decide (6 < f.number.toNat)

/-- New constants in force; an UNCONFIGURED cell goes to STANDBY (R144, R172). -/
def State.putConstants (s : State) (c : Constants) : State :=
  { s with constants := c, cell := { s.cell with state := CellState.standby } }

/-- CONSTANTS_WRITE (R172). R172 has the answer carry "the section as it now stands"; that it does so by the fields
alone, without the section number and without padding, is log entry 42. -/
def execConstantsWrite (p : Port) (fields : ConstantsSection) (s : State) : Result :=
  .next (s.request p 43 fun s =>
    if sectionOutside fields then refuse s .outOfRange
    else if s.cell.state ≠ CellState.standby ∧ s.cell.state ≠ CellState.unconfigured then refuse s .wrongState
    else
      match s.constants.replace fields with
      | none => refuse s .outOfRange
      | some c => accept s (s.putConstants c) fun _ => fields.fieldBytes)

/-- STORE_SAVE (R171). The store stands in the answer for every record number 0..3, the PROTECTED refusal included; a
number above 3 names no record, and its refusal has no body (log entry 37). -/
def execStoreSave (p : Port) (record : Byte) (s : State) : Result :=
  .next (s.request p 44 fun s =>
    if record = 0 then respond s s.storeBody
    else
      match recordIdOf record.toNat with
      | none => refuse s .outOfRange
      | some r =>
          if s.store.writeProtect then (s, { verdict := .refused .protectedStore, body := s.storeBody })
          else accept s (s.setPending r true) State.storeBody)

/-- CELL_RESET (R168, R174). -/
def execCellReset (p : Port) (s : State) : Result :=
  .next (s.request p 45 fun s =>
    if s.store.writing.isSome then refuse s .busy else (s.softReset, .bare .accepted))

/-- The running write ends (R170). -/
def State.endWrite (s : State) (w : StoreWrite) (ok : Bool) : State :=
  let f := s.store.flags w.record
  let st := (s.store.setFlags w.record { f with outcome := if ok then .done else .failed }).setMarker w.record ok
  let t := { s with store := { st with writing := none } }
  (if ok then t else t.raise .storeFailure).postIf w.explicit .cell .storeDone

/-- STORE_WRITE_END (R170; log entry 24). -/
def execStoreWriteEnd (readBackMatches : Bool) (s : State) : Result :=
  .next (s.event fun s => match s.store.writing with
    | some w => s.endWrite w readBackMatches
    | none => s)

/-- POWER_ON (R1, R9, R167, R169, R173). -/
def execPowerOn (s : State) : Result := .next s.beginReset

/-- PIN_RESET (R1, R9, R167, R169, R173); during the start-up read the read begins again. -/
def execPinReset (s : State) : Result := .next s.beginReset

/-- START_UP_READ_END (R171, R173; log entry 25). -/
def execStartUpReadEnd (lines : Lines) (s : State) : Result :=
  .next (if s.starting then s.completeReset lines else s)

end Sys2Proof.Machine
end

