-- ==== Sys2Proof/Machine/SpindleLoop.lean ====
section
/-! DEFINITION. The tach line, the spindle loop's timers and SPINDLE_RESET (5.2 to 5.4). -/

namespace Sys2Proof.Machine

/-- The loop reset from FAULTED (R90): STOPPED, SPINDLE_FAULT ended, and START in RUN and HOLD. -/
def State.resetSpindle (s : State) : State :=
  let t := { s with spindle := { s.spindle with state := .stopped } }.endCondition .spindleFault
  match s.cell.state with
  | .run | .hold => t.start
  | .unconfigured | .standby | .park => t

/-- SPINDLE_RESET (R90). -/
def execSpindleReset (p : Port) (s : State) : Result :=
  .next (s.request p 29 fun s =>
    if s.spindle.state = .faulted then accept s s.resetSpindle fun t => n8 t.spindle.state.code
    else refuse s .wrongState)

/-- A tach edge in KICK (R84). -/
def State.kickEdge (s : State) : State :=
  let t := { s with spindle := { s.spindle with kickEdges := s.spindle.kickEdges + 1 } }
  if 2 ≤ t.spindle.kickEdges then t.enterRamping else t

/-- A tach edge some time-base cycles after the last one counted (R77, R78, R84; log entry 4). -/
def State.tachEdge (s : State) (cycles : Nat) : State :=
  match s.spindle.state with
  | .kick => s.kickEdge
  | .ramping | .atSpeed => (s.advanceMeasurement cycles).edgeInMeasurement
  | .stopped | .faulted => s

/-- TACH_EDGE (R77, R84). -/
def execTachEdge (cycles : Word16) (s : State) : Result := .next (s.event fun s => s.tachEdge cycles.toNat)

/-- STALL_MEASUREMENT (R78; log entry 2). -/
def execStallMeasurement (s : State) : Result :=
  .next (s.event fun s => match s.spindle.measurement with
    | some _ => s.completeStall 0
    | none => s)

/-- The control period expires: in RAMPING the reference steps, and its arrival loads the settle timer (R82, R87). -/
def State.controlPeriod (s : State) : State :=
  let sp := { s.spindle with controlPhase := 0 }
  match sp.state with
  | .ramping =>
      let r := rampStep sp.reference sp.commanded s.constants.spindle.rampRate
      let arrived := sp.reference ≠ sp.commanded ∧ r = sp.commanded
      { s with spindle := { sp with reference := r,
                                    settleTimer := if arrived then s.loadSettle else sp.settleTimer } }
  | .stopped | .kick | .atSpeed | .faulted => { s with spindle := sp }

/-- CONTROL_PERIOD (R82). -/
def execControlPeriod (s : State) : Result := .next (s.event State.controlPeriod)

/-- KICK_TIMEOUT (R84; log entry 2). -/
def execKickTimeout (s : State) : Result :=
  .next (s.event fun s => match s.spindle.kickTimer with
    | some _ => s.enterFaulted .kickTimeout
    | none => s)

/-- SETTLE (R87; log entry 2). -/
def execSettle (s : State) : Result :=
  .next (s.event fun s => match s.spindle.settleTimer with
    | some _ => s.enterFaulted .settle
    | none => s)

end Sys2Proof.Machine
end

