-- ==== Sys2Proof/Machine/Dispatch.lean ====
section
/-! DEFINITION. One arm for each command, in the order of the table. -/

namespace Sys2Proof.Machine

open Sys2Proof

def exec (i : Instr) (s : State) : Host.Outcome State Fault Refusal :=
  match i with
  | .noop port => Sys2Proof.Machine.execNoop port s
  | .takeEvent port => Sys2Proof.Machine.execTakeEvent port s
  | .setAttention port mask => Sys2Proof.Machine.execSetAttention port mask s
  | .holdSet port => Sys2Proof.Machine.execHoldSet port s
  | .holdClear port => Sys2Proof.Machine.execHoldClear port s
  | .panelRead port record => Sys2Proof.Machine.execPanelRead port record s
  | .boardRead port panel board => Sys2Proof.Machine.execBoardRead port panel board s
  | .windowRead port => Sys2Proof.Machine.execWindowRead port s
  | .pickRead port => Sys2Proof.Machine.execPickRead port s
  | .bitRead port => Sys2Proof.Machine.execBitRead port s
  | .spindleRead port => Sys2Proof.Machine.execSpindleRead port s
  | .magazineRead port part index => Sys2Proof.Machine.execMagazineRead port part index s
  | .registerRead port position => Sys2Proof.Machine.execRegisterRead port position s
  | .encoderRead port slot => Sys2Proof.Machine.execEncoderRead port slot s
  | .insertRead port => Sys2Proof.Machine.execInsertRead port s
  | .recipeOpen port slot boardCount rpm feed cutLimit => Sys2Proof.Machine.execRecipeOpen port slot boardCount rpm feed cutLimit s
  | .recipeBoard port slot board rank height pickX pickY tabCount => Sys2Proof.Machine.execRecipeBoard port slot board rank height pickX pickY tabCount s
  | .recipeTab port slot board tab role x y heading cutLength => Sys2Proof.Machine.execRecipeTab port slot board tab role x y heading cutLength s
  | .recipeClose port slot => Sys2Proof.Machine.execRecipeClose port slot s
  | .recipeErase port slot => Sys2Proof.Machine.execRecipeErase port slot s
  | .recipeRead port slot board tab => Sys2Proof.Machine.execRecipeRead port slot board tab s
  | .panelStart port fixture slot serial xouts => Sys2Proof.Machine.execPanelStart port fixture slot serial xouts s
  | .panelAbort port panel => Sys2Proof.Machine.execPanelAbort port panel s
  | .panelResult port serial => Sys2Proof.Machine.execPanelResult port serial s
  | .resolveTabUncut port panel board tab => Sys2Proof.Machine.execResolveTabUncut port panel board tab s
  | .resolveTabCut port panel board tab => Sys2Proof.Machine.execResolveTabCut port panel board tab s
  | .divert port panel board => Sys2Proof.Machine.execDivert port panel board s
  | .bitChange port serial wear => Sys2Proof.Machine.execBitChange port serial wear s
  | .bitSetup port levels span baseDepth levelStep derateStart endOfLife minFeed => Sys2Proof.Machine.execBitSetup port levels span baseDepth levelStep derateStart endOfLife minFeed s
  | .spindleReset port => Sys2Proof.Machine.execSpindleReset port s
  | .resolveSlot port slot finding => Sys2Proof.Machine.execResolveSlot port slot finding s
  | .manifestRead port index => Sys2Proof.Machine.execManifestRead port index s
  | .manifestRelease port => Sys2Proof.Machine.execManifestRelease port s
  | .binEmptied port => Sys2Proof.Machine.execBinEmptied port s
  | .registerRepair port tag => Sys2Proof.Machine.execRegisterRepair port tag s
  | .cellStart port => Sys2Proof.Machine.execCellStart port s
  | .cellPark port => Sys2Proof.Machine.execCellPark port s
  | .cellResume port => Sys2Proof.Machine.execCellResume port s
  | .cellStop port => Sys2Proof.Machine.execCellStop port s
  | .faultResponse port kind enable action latch => Sys2Proof.Machine.execFaultResponse port kind enable action latch s
  | .faultClear port kind => Sys2Proof.Machine.execFaultClear port kind s
  | .setLimits port hangLimit speedOverride feedOverride binCapacity => Sys2Proof.Machine.execSetLimits port hangLimit speedOverride feedOverride binCapacity s
  | .statusRead port kind => Sys2Proof.Machine.execStatusRead port kind s
  | .constantsWrite port fields => Sys2Proof.Machine.execConstantsWrite port fields s
  | .storeSave port record => Sys2Proof.Machine.execStoreSave port record s
  | .cellReset port => Sys2Proof.Machine.execCellReset port s
  | .nextCut port => Sys2Proof.Machine.execNextCut port s
  | .cutDone port tag => Sys2Proof.Machine.execCutDone port tag s
  | .cutAbort port tag length => Sys2Proof.Machine.execCutAbort port tag length s
  | .claimNext port => Sys2Proof.Machine.execClaimNext port s
  | .claim port serial board => Sys2Proof.Machine.execClaim port serial board s
  | .gripped port serial board => Sys2Proof.Machine.execGripped port serial board s
  | .release port serial board => Sys2Proof.Machine.execRelease port serial board s
  | .destination port serial board => Sys2Proof.Machine.execDestination port serial board s
  | .rejectPlaced port serial board => Sys2Proof.Machine.execRejectPlaced port serial board s
  | .insertBegin port serial board => Sys2Proof.Machine.execInsertBegin port serial board s
  | .insertEndAborted port serial board => Sys2Proof.Machine.execInsertEndAborted port serial board s
  | .insertEndSeated port serial board => Sys2Proof.Machine.execInsertEndSeated port serial board s
  | .magLoaded port tag type => Sys2Proof.Machine.execMagLoaded port tag type s
  | .magUnload port => Sys2Proof.Machine.execMagUnload port s
  | .homeBegin port => Sys2Proof.Machine.execHomeBegin port s
  | .moveBegin port => Sys2Proof.Machine.execMoveBegin port s
  | .arrived port => Sys2Proof.Machine.execArrived port s
  | .nextPosition port => Sys2Proof.Machine.execNextPosition port s
  | .selectFalls port => Sys2Proof.Machine.execSelectFalls port s
  | .badLength port bytes => Sys2Proof.Machine.execBadLength port bytes s
  | .unknownRequest port code => Sys2Proof.Machine.execUnknownRequest port code s
  | .tachEdge cycles => Sys2Proof.Machine.execTachEdge cycles s
  | .stallMeasurement => Sys2Proof.Machine.execStallMeasurement s
  | .controlPeriod => Sys2Proof.Machine.execControlPeriod s
  | .kickTimeout => Sys2Proof.Machine.execKickTimeout s
  | .settle => Sys2Proof.Machine.execSettle s
  | .grantExpiry => Sys2Proof.Machine.execGrantExpiry s
  | .parkTimer => Sys2Proof.Machine.execParkTimer s
  | .seatSettleTimeout => Sys2Proof.Machine.execSeatSettleTimeout s
  | .encoderTransition a b => Sys2Proof.Machine.execEncoderTransition a b s
  | .illegalTransition => Sys2Proof.Machine.execIllegalTransition s
  | .referenceEdge => Sys2Proof.Machine.execReferenceEdge s
  | .seatSensorEdge => Sys2Proof.Machine.execSeatSensorEdge s
  | .guardOpens => Sys2Proof.Machine.execGuardOpens s
  | .storeWriteEnd readBackMatches => Sys2Proof.Machine.execStoreWriteEnd readBackMatches s
  | .powerOn => Sys2Proof.Machine.execPowerOn s
  | .pinReset => Sys2Proof.Machine.execPinReset s
  | .startUpReadEnd lines => Sys2Proof.Machine.execStartUpReadEnd lines s
  | .guardCloses => Sys2Proof.Machine.execGuardCloses s

end Sys2Proof.Machine
end

