-- ==== Sys2Proof/Safety.lean ====
section
/-! DEFINITION. The relations between fields that every reachable state keeps. -/

namespace Sys2Proof.Machine

/-- The cell is in RUN or HOLD. -/
abbrev State.working (s : State) : Prop := s.cell.state = .run ∨ s.cell.state = .hold

/-- The duty lies in 0..1023 and is 0 while the loop does not turn the spindle; R lies in 6,000..60,000; the spindle
constants are in range (R76, R80, R82, R172). -/
abbrev SpindleSafe (s : State) : Prop :=
  s.spindle.duty ≤ 1023 ∧ (s.spindle.state.turning = false → s.spindle.duty = 0)
    ∧ (6000 ≤ s.spindle.reference ∧ s.spindle.reference ≤ 60000) ∧ s.constants.spindle.inRange = true

/-- At most two grants stand in the window (R32); outside RUN and HOLD, and while the start-up read runs, the spindle is
at rest; while it is at rest no grant is LIVE (R41, R42, R91, R152). -/
abbrev WindowSafe (s : State) : Prop :=
  s.scheduler.window.length ≤ 2
    ∧ (¬ s.working ∨ s.starting = true → s.spindle.state.turning = false)
    ∧ (s.spindle.state.turning = false → ∀ g ∈ s.scheduler.window, g.live = false)

/-- The hold set is empty in RUN and not empty in HOLD, and FAULT is in it exactly while a kind holds (R145, R146). -/
abbrev HoldsSafe (s : State) : Prop :=
  (s.cell.state = .run → s.cell.holds.isEmpty = true) ∧ (s.cell.state = .hold → s.cell.holds.isEmpty = false)
    ∧ s.cell.holds.fault = s.faultHolds

/-- The worn flag is set exactly while W is at or above Weol (R66), and W, in use and stored, is a 32-bit number (R63,
R65). -/
abbrev BitSafe (s : State) : Prop :=
  s.bit.worn = decide (s.bit.record.params.endOfLife ≤ s.bit.record.wear) ∧ s.bit.record.wear ≤ 4294967295
    ∧ s.store.bit.contents.wear ≤ 4294967295

/-- A port holds only kinds of its own list, pending and enabled (R164, R166). -/
abbrev PortSafe (s : State) (p : Port) : Prop :=
  (s.port p).events &&& ~~~(allKinds p) = 0 ∧ (s.port p).enabled &&& ~~~(allKinds p) = 0

/-- Every port is safe. -/
abbrev PortsSafe (s : State) : Prop :=
  PortSafe s .cell ∧ PortSafe s .router ∧ PortSafe s .pick ∧ PortSafe s .magazine

/-- No open insertion with a move permission (R131); HOMED and armed never both (R122); at most two captures (R126). -/
abbrev HandshakeSafe (s : State) : Prop :=
  (s.insertion.permission = true → s.insertion.insertion = none)
    ∧ ¬ (s.elevator.homed = true ∧ s.elevator.armed = true) ∧ s.elevator.captures.length ≤ 2

/-- The working register holds at most 16 entries with distinct tags (R97). -/
abbrev RegisterSafe (s : State) : Prop :=
  s.magazine.register.length ≤ 16 ∧ (s.magazine.register.map (·.tag)).Nodup

/-- A free store has no pending save (R170). -/
abbrev StoreSafe (s : State) : Prop := s.store.writing = none → s.store.nextWrite = none

/-- A record that is not FREE names a VALID recipe slot (R2); no other record carries its serial, and none of the
others is ACTIVE on its fixture (R11). -/
abbrev PanelsSafe (s : State) : Prop :=
  ∀ (i : Fin 4) (panel : Panel), s.panels.records[i] = some panel →
    (∃ r, s.recipes[panel.recipe] = .valid r)
      ∧ ∀ (j : Fin 4) (other : Panel), s.panels.records[j] = some other →
          other.serial = panel.serial ∨ (panel.state.isActive = true ∧ other.state = panel.state) → j = i

/-! ### The laws of the device: what the boards, the claim, the queue, the window and the slots say of each other -/

/-- The board records of the part. -/
def State.boards (s : State) : List Located :=
  allRecords.flatMap fun i => match s.panels.records[i] with
    | some p => (p.boards.zipIdx 1).map fun (board, b) => { record := i, panel := p, index := b, board := board }
    | none => []

/-- How many tabs of a role a board still has, those GRANTED and SUSPECT among them. -/
def State.tabsLeft (s : State) (l : Located) (hold : Bool) : Nat :=
  ((s.tabsOf l.panel l.index l.board hold).filter (·.2 != .cut)).length

/-- A recipe slot that is VALID passes the checks of RECIPE_CLOSE. -/
def RecipeSlot.passes : RecipeSlot → Bool
  | .valid r => r.failure.isNone
  | .empty | .opened _ => true

/-- VALID recipes pass their checks (R6). -/
abbrev RecipesSafe (s : State) : Prop := ∀ i : Fin 4, s.recipes[i].passes = true

/-- The uncut counts of a board are those of its tabs, its height class is 1 or 2 (R4, R13), and its state says what is
left to cut: a CUTTING board has free tabs and all of its hold tabs, a board that hangs has hold tabs only, and a board
that has come off has none (R36 to R38). A panel that is not ACTIVE has no attached board, and a FINISHED one only
terminal ones (R16). -/
abbrev BoardSafe (s : State) (l : Located) : Prop :=
  (l.board.freeUncut = s.tabsLeft l false ∧ l.board.holdUncut = s.tabsLeft l true)
    ∧ (l.board.height = 1 ∨ l.board.height = 2)
    ∧ (l.board.state = .cutting → 1 ≤ l.board.freeUncut ∧ 1 ≤ l.board.holdUncut
        ∧ ∀ x ∈ s.tabsOf l.panel l.index l.board true, x.2 = .uncut)
    ∧ (l.board.state = .hanging ∨ l.board.state = .claimed ∨ l.board.state = .held →
        l.board.freeUncut = 0 ∧ 1 ≤ l.board.holdUncut)
    ∧ (l.board.state.attached = false → l.board.state ≠ .abandoned → l.board.freeUncut = 0 ∧ l.board.holdUncut = 0)
    ∧ (l.panel.state.isActive = false → l.board.state.attached = false)
    ∧ (l.panel.state = .finished → l.board.state.terminal = true)

/-- Every board record is safe. -/
abbrev BoardsSafe (s : State) : Prop := ∀ l ∈ s.boards, BoardSafe s l

/-- The claim names the one board that is CLAIMED, HELD, LOOSE, BOUND or INSERTING, and no other (R46). -/
abbrev ClaimSafe (s : State) : Prop :=
  (∀ l ∈ s.boards, l.board.state.onClaim = true ↔ s.gripper.claim = some l.id)
    ∧ ∀ id ∈ s.gripper.claim.toList, ∃ l ∈ s.boards, l.id = id

/-- The queue holds exactly the HANGING boards, each once (R48). -/
abbrev QueueSafe (s : State) : Prop :=
  s.gripper.queue.Nodup ∧ (∀ l ∈ s.boards, l.board.state = .hanging ↔ l.id ∈ s.gripper.queue)
    ∧ ∀ id ∈ s.gripper.queue, ∃ l ∈ s.boards, l.id = id

/-- The grants in the window are for distinct tabs, each GRANTED and of the role its grant says; a LIVE one for a hold
tab is for a HELD board, and one for a free tab for a CUTTING board (R18, R28, R29, R32, R41, R53). -/
abbrev GrantsSafe (s : State) : Prop :=
  (s.scheduler.window.map fun g => (g.serial, g.board, g.tab)).Nodup
    ∧ ∀ g ∈ s.scheduler.window, ∃ l ∈ s.boards, l.id = { serial := g.serial, board := g.board }
        ∧ nth1 l.board.tabs g.tab = some .granted ∧ s.isHold l.panel l.index g.tab = g.hold
        ∧ (g.live = true → l.board.state = if g.hold then .held else .cutting)

/-- The hang limit lies in 1..8, as does the default one, and no more boards are hang-committed than it allows (R26, R27,
R29, R172); no panel stands in a record while the start-up read runs (R9). -/
abbrev HangSafe (s : State) : Prop :=
  (1 ≤ s.scheduler.hangLimit ∧ s.scheduler.hangLimit ≤ 8)
    ∧ (1 ≤ s.constants.defaultHangLimit ∧ s.constants.defaultHangLimit ≤ 8)
    ∧ s.hangCommitted ≤ s.scheduler.hangLimit
    ∧ (s.starting = true → ∀ i : Fin 4, s.panels.records[i] = none)

/-- The state of slot n of the loaded magazine. -/
def State.slotState (s : State) (n : Nat) : Option SlotState :=
  (s.magazine.session.bind fun m => nth1 m.slots n).map (·.state)

/-- The first slot of the run kept for a board, and the state of that run: RESERVED while the board is BOUND or INSERTING,
and while it is VERIFYING in a settle wait; else, while it is VERIFYING, DOUBT (6.3, R100, R141). -/
def State.keptRun (s : State) (l : Located) : Option (Nat × SlotState) :=
  match l.board.destination with
  | some (.slot k) =>
      match l.board.state with
      | .bound | .inserting => some (k, .reserved l.id)
      | .verifying => some (k, if s.insertion.wait.any (·.board == l.id) then .reserved l.id else .doubt l.id)
      | .cutting | .hanging | .claimed | .held | .loose | .stowed | .rejected | .lost | .abandoned => none
  | some .reject => none
  | none => none

/-- A board has a destination while it is BOUND, and a slot while it is INSERTING or VERIFYING; before it is BOUND it has
none (R13). -/
abbrev DestinationSafe (board : Board) : Prop :=
  (board.state = .bound → board.destination ≠ none)
    ∧ (board.state = .inserting ∨ board.state = .verifying → board.destination ≠ none ∧ board.destination ≠ some .reject)
    ∧ (board.state.attached = true ∨ board.state = .loose → board.destination = none)

/-- The slots kept for boards are RESERVED or in DOUBT for them, and no other slot is (R100). The settle wait names a
VERIFYING board, and the open insertion the INSERTING one, with its slot and height class; there is never both (R137,
R138, R140, R141). -/
abbrev SlotsSafe (s : State) : Prop :=
  (∀ l ∈ s.boards, DestinationSafe l.board
      ∧ (∀ x ∈ (s.keptRun l).toList, ∀ d < l.board.height, s.slotState (x.1 + d) = some x.2)
      ∧ (l.board.state = .inserting → s.insertion.insertion.isSome = true))
    ∧ (∀ m ∈ s.magazine.session.toList, m.slots.length = m.type.slotCount
        ∧ ∀ n < m.slots.length + 1, ∀ st ∈ (s.slotState n).toList, st.unsettled = true →
            ∃ l ∈ s.boards, ∃ x ∈ (s.keptRun l).toList, x.2 = st ∧ x.1 ≤ n ∧ n < x.1 + l.board.height)
    ∧ (∀ w ∈ s.insertion.wait.toList, ∃ l ∈ s.boards, l.id = w.board ∧ l.board.state = .verifying
        ∧ l.board.destination = some (.slot w.first) ∧ l.board.height = w.height)
    ∧ (∀ o ∈ s.insertion.insertion.toList, s.insertion.wait = none ∧ ∃ l ∈ s.boards, l.id = o.board
        ∧ l.board.state = .inserting ∧ l.board.destination = some (.slot o.first) ∧ l.board.height = o.height)

/-- The manifest numbers its entries from 1; the run of each entry is FILLED with its board, a FILLED slot lies in the run
of an entry for its board, and no two runs share a slot (R100, R104). -/
abbrev ManifestSafe (s : State) : Prop :=
  ∀ m ∈ s.magazine.session.toList,
    m.manifest.map (·.stow) = List.range' 1 m.manifest.length ∧ m.stow = m.manifest.length + 1
    ∧ (∀ e ∈ m.manifest, ∀ d < e.height, s.slotState (e.first + d) = some (.filled e.board))
    ∧ (∀ n < m.slots.length + 1, ∀ st ∈ (s.slotState n).toList, st.code = 2 →
        ∃ e ∈ m.manifest, st = .filled e.board ∧ e.first ≤ n ∧ n < e.first + e.height)
    ∧ m.manifest.Pairwise fun e f => e.first + e.height ≤ f.first ∨ f.first + f.height ≤ e.first

/-- The laws of the device, which keep each other. -/
abbrev DeviceSafe (s : State) : Prop :=
  PanelsSafe s ∧ RecipesSafe s ∧ BoardsSafe s ∧ ClaimSafe s ∧ QueueSafe s ∧ GrantsSafe s ∧ HangSafe s ∧ SlotsSafe s
    ∧ ManifestSafe s

end Sys2Proof.Machine
end

