-- ==== Sys2Proof/WellFormed.lean ====
section
/-! DEFINITION. Which terms are commands of their row. -/

namespace Sys2Proof

/-- A selector whose first byte names no record has a first byte above 2 (R163). -/
def Selector.wellFormed : Selector → Bool
  | .unnamed b => decide (2 < b.toNat)
  | .fixtureA => true
  | .fixtureB => true
  | .serial _ => true

/-- A section's constructor agrees with its number (R172). -/
def ConstantsSection.wellFormed : ConstantsSection → Bool
  | .magazineType n _ _ _ _ => decide (1 ≤ n.toNat ∧ n.toNat ≤ 4)
  | .unnamed n => decide (n = 0 ∨ 6 < n.toNat)
  | .spindle .. => true
  | .cell .. => true

/-- A command is well-formed when its operands can stand in a frame of its row (R163), a BAD_LENGTH carries bytes that
are no request and no unknown code (R160, R162), and an UNKNOWN_REQUEST carries a code that names no request. -/
def Instr.wellFormed : Instr → Bool
  | .boardRead _ sel _ => sel.wellFormed
  | .panelStart _ _ _ _ xouts => decide (xouts.length ≤ 24)
  | .panelAbort _ sel => sel.wellFormed
  | .resolveTabUncut _ sel _ _ => sel.wellFormed
  | .resolveTabCut _ sel _ _ => sel.wellFormed
  | .divert _ sel _ => sel.wellFormed
  | .constantsWrite _ fields => fields.wellFormed
  | .badLength p bytes => decodeFrame p bytes == .badLength p bytes
  | .unknownRequest _ code => (requestRow code.toNat).isNone
  | .noop _ | .takeEvent _ | .setAttention _ _ | .holdSet _ | .holdClear _ | .panelRead _ _ | .windowRead _
    | .pickRead _ | .bitRead _ | .spindleRead _ | .magazineRead _ _ _ | .registerRead _ _ | .encoderRead _ _
    | .insertRead _ | .recipeOpen _ _ _ _ _ _ | .recipeBoard _ _ _ _ _ _ _ _ | .recipeTab _ _ _ _ _ _ _ _ _
    | .recipeClose _ _ | .recipeErase _ _ | .recipeRead _ _ _ _ | .panelResult _ _ | .bitChange _ _ _
    | .bitSetup _ _ _ _ _ _ _ _ | .spindleReset _ | .resolveSlot _ _ _ | .manifestRead _ _ | .manifestRelease _
    | .binEmptied _ | .registerRepair _ _ | .cellStart _ | .cellPark _ | .cellResume _ | .cellStop _
    | .faultResponse _ _ _ _ _ | .faultClear _ _ | .setLimits _ _ _ _ _ | .statusRead _ _ | .storeSave _ _
    | .cellReset _ | .nextCut _ | .cutDone _ _ | .cutAbort _ _ _ | .claimNext _ | .claim _ _ _ | .gripped _ _ _
    | .release _ _ _ | .destination _ _ _ | .rejectPlaced _ _ _ | .insertBegin _ _ _ | .insertEndAborted _ _ _
    | .insertEndSeated _ _ _ | .magLoaded _ _ _ | .magUnload _ | .homeBegin _ | .moveBegin _ | .arrived _
    | .nextPosition _ | .selectFalls _ | .tachEdge _ | .stallMeasurement | .controlPeriod | .kickTimeout | .settle
    | .grantExpiry | .parkTimer | .seatSettleTimeout | .encoderTransition _ _ | .illegalTransition | .referenceEdge
    | .seatSensorEdge | .guardOpens | .storeWriteEnd _ | .powerOn | .pinReset | .startUpReadEnd _ | .guardCloses => true

end Sys2Proof
end

