-- ==== Sys2Proof/Certificates/Slice0/Obligations.lean ====
section
/-! DEFINITION. The statements for the provers, and the abbreviations they share. -/

namespace Sys2Proof.Machine

open Sys2Proof

/-! ### Words the statements share -/

/-- A request of this code on this port reaches the block that owns it (R162, R167). -/
abbrev State.Reaches (s : State) (p : Port) (code : Byte) : Prop :=
  (s.port p).line ≠ .ignored ∧ allowed code p = true ∧ s.starting = false

/-- The request has a next state: t, with this answer pending on the port and its transaction over (R161). -/
abbrev Answers (i : Instr) (s t : State) (p : Port) (code : Byte) (v : Verdict) (body : List Byte) : Prop :=
  exec i s = .next (t.answer p code { verdict := v, body := body })

/-- The request is refused, and nothing but the pending answer changes. -/
abbrev Refuses (i : Instr) (s : State) (p : Port) (code : Byte) (r : RefusedReason) : Prop :=
  Answers i s s p code (.refused r) []

/-- The request is answered WAIT, and nothing but the pending answer changes. -/
abbrev Waits (i : Instr) (s : State) (p : Port) (code : Byte) (r : WaitReason) : Prop := Answers i s s p code (.wait r) []

/-- The board record under an index of a panel record. -/
abbrev State.boardAt (s : State) (i : Fin 4) (b : Nat) : Option Board := (s.locate i b).map (·.board)

/-- Every board record but one is the same. -/
abbrev BoardsElsewhere (s t : State) (i : Fin 4) (b : Nat) : Prop :=
  ∀ (j : Fin 4) (c : Nat), ¬ (j = i ∧ c = b) → t.boardAt j c = s.boardAt j c

/-- The spindle loop after a stop (R91). -/
abbrev SpindleStopped (s t : State) : Prop :=
  t.spindle = if s.spindle.state.turning then
      { s.spindle with state := .stopped, duty := 0, measurement := none, kickTimer := none, settleTimer := none }
    else s.spindle

/-- Every grant in the window is REVOKED and keeps its place; the router is told if one was LIVE (R41, R42). -/
abbrev WindowRevoked (s t : State) : Prop :=
  t.scheduler = { s.scheduler with window := s.scheduler.window.map fun g => { g with live := false } }
    ∧ ((s.scheduler.window.any fun g => g.live) = true → t.isPending .router .grantRevoked = true)

/-- Cell control enters PARK with all the effects of R149, and nothing else changes but event sets. -/
abbrev ParkEntered (s t : State) : Prop :=
  t.cell = { s.cell with state := .park, parkTimer := none } ∧ WindowRevoked s t ∧ SpindleStopped s t
    ∧ t.store = (s.queueSave .bit).storeBegin.store
    ∧ (s.permitted = true → t.isPending .router .cuttingStopped = true)
    ∧ { t with cell := s.cell, scheduler := s.scheduler, spindle := s.spindle, store := s.store, ports := s.ports } = s

/-- The park timer as entry to HOLD loads it (R147). -/
abbrev State.loadedPark (s : State) : Option Timer :=
  if s.constants.parkDelay = 0 then none else some { ms := s.constants.parkDelay * 1000, us := 0 }

/-- The spindle loop after START (R83, R84). -/
abbrev State.startedSpindle (s : State) : Spindle :=
  if s.spindle.state = .stopped then
    { s.spindle with state := .kick, duty := s.constants.spindle.kickDuty, kickEdges := 0,
                     kickTimer := some { ms := s.constants.spindle.kickTimeout, us := 0 } }
  else s.spindle

end Sys2Proof.Machine

namespace Sys2Proof

/-- The port whose controller or select a command comes from; none for a line, a timer or the store. -/
def Instr.portOf (i : Instr) : Option Port :=
  match i with
  | .selectFalls p => some p
  | .badLength p _ => some p
  | .unknownRequest p _ => some p
  | _ => i.request.map (·.1)

/-- The commands that may reset the part or complete its reset. -/
def Instr.resets : Instr → Bool
  | .cellReset _ => true
  | .powerOn => true
  | .pinReset => true
  | .startUpReadEnd _ => true
  | _ => false

/-- TAKE_EVENT on this port. -/
def Instr.takesEventOn (p : Port) : Instr → Bool
  | .takeEvent q => p == q
  | _ => false

end Sys2Proof

open Sys2Proof Sys2Proof.Machine

/-! ### Steps and the queue -/

/-- A step takes the command at the front of the queue and is its execution on the state with the queue's rest. -/
def Obligations.StepRunsTheFrontCommand : Prop :=
  ∀ (c : Instr) (s : State), step { s with pending := c :: s.pending } = exec c s

/-- MODEL'S CHOICE (log entry 1): on an empty queue one cycle of the time base passes. Nothing passes during the
start-up read. In a cycle in which nothing falls due the measurement, the control period and the running timers advance,
and nothing else changes. -/
abbrev Sys2Proof.Says.EmptyQueueAdvancesTheTimeBase : Prop :=
  ∀ s : State, s.pending = [] →
    (s.starting = true → step s = .next s)
    ∧ (s.starting = false → s.spindle.controlPhase < 9999 → (∀ m, s.spindle.measurement = some m → m.count < 65534) →
        (∀ x ∈ [s.spindle.kickTimer, s.spindle.settleTimer, s.scheduler.expiry, s.cell.parkTimer,
            s.insertion.wait.map (·.timer)], ∀ t, x = some t → 1 < t.ms ∨ (t.ms = 1 ∧ t.us < 999)) →
        step s = .next { s with
          spindle := { s.spindle with
            controlPhase := s.spindle.controlPhase + 1
            measurement := s.spindle.measurement.map fun m => { m with count := m.count + 1 }
            kickTimer := s.spindle.kickTimer.map Timer.tick
            settleTimer := s.spindle.settleTimer.map Timer.tick }
          scheduler := { s.scheduler with expiry := s.scheduler.expiry.map Timer.tick }
          cell := { s.cell with parkTimer := s.cell.parkTimer.map Timer.tick }
          insertion := { s.insertion with wait := s.insertion.wait.map fun w => { w with timer := w.timer.tick } } })

/-- MODEL'S CHOICE (log entries 1 to 3): what falls due in a cycle of the time base is queued, in some order. -/
abbrev Sys2Proof.Says.DueEventsAreQueued : Prop :=
  ∀ s : State, s.pending = [] → s.starting = false → ∃ t, step s = .next t ∧
    (∀ m, s.spindle.measurement = some m → (Instr.stallMeasurement ∈ t.pending ↔ 65535 ≤ m.count + 1))
    ∧ (Instr.controlPeriod ∈ t.pending ↔ 9999 ≤ s.spindle.controlPhase)
    ∧ (∀ x, s.spindle.kickTimer = some x → (Instr.kickTimeout ∈ t.pending ↔ x.tick.ms = 0))
    ∧ (∀ x, s.spindle.settleTimer = some x → (Instr.settle ∈ t.pending ↔ x.tick.ms = 0))
    ∧ (∀ x, s.scheduler.expiry = some x → (Instr.grantExpiry ∈ t.pending ↔ x.tick.ms = 0))
    ∧ (∀ x, s.cell.parkTimer = some x → (Instr.parkTimer ∈ t.pending ↔ x.tick.ms = 0))
    ∧ (∀ x, s.insertion.wait = some x → (Instr.seatSettleTimeout ∈ t.pending ↔ x.timer.tick.ms = 0))

/-- MODEL'S CHOICE (log entries 1 to 3): what a step does on an empty queue. -/
def Obligations.TheTimeBaseAdvancesAndQueuesWhatIsDue : Prop :=
  Says.EmptyQueueAdvancesTheTimeBase ∧ Says.DueEventsAreQueued

/-! ### Ports -/

/-- A request frame stands for its command: the frame of a well-formed request decodes to it, every operand at every
value. -/
def Obligations.FrameOfARequestDecodesToIt : Prop :=
  ∀ (i : Instr) (p : Port) (bytes : List Byte), i.wellFormed = true → encodeFrame i = some (p, bytes) →
    decodeFrame p bytes = i

/-- Before any block is reached: bytes clocked while select is ignored are dropped, a request on a port that may not
send it is refused WRONG_PORT, and during the start-up read STARTING. -/
abbrev Sys2Proof.Says.RequestsTurnedAwayAtThePort : Prop :=
  ∀ (i : Instr) (s : State) (p : Port) (code : Byte) (body : List Byte), i.wellFormed = true →
    i.request = some (p, code, body) →
    ((s.port p).line = .ignored → exec i s = .next (s.modifyPort p fun v => { v with line := .idle }))
    ∧ ((s.port p).line ≠ .ignored → allowed code p = false → Refuses i s p code .wrongPort)
    ∧ ((s.port p).line ≠ .ignored → allowed code p = true → s.starting = true → Refuses i s p code .starting)

/-- The answer to a request becomes the pending answer of its port and ends its transaction; nothing else changes. -/
abbrev Sys2Proof.Says.AnswerBecomesPending : Prop :=
  ∀ (s : State) (p : Port) (code : Byte) (v : Verdict) (body : List Byte),
    let t := s.answer p code { verdict := v, body := body }
    t.port p = { s.port p with answer := some { echo := code, verdict := v, body := body }, line := .idle }
      ∧ (∀ q, q ≠ p → t.port q = s.port q) ∧ { t with ports := s.ports } = s

/-- A falling edge of select loads the pending answer, or the empty ACCEPTED one, with the number of pending kinds; the
port then holds no pending answer. A falling edge inside a transaction changes nothing (log entry 5). -/
abbrev Sys2Proof.Says.SelectFallsLoadsTheAnswer : Prop :=
  ∀ (s : State) (p : Port),
    ((∀ f, (s.port p).line ≠ .transaction f) →
      exec (.selectFalls p) s = .next (s.modifyPort p fun v =>
        { v with
          answer := none
          line := .transaction
            { answer := v.answer.getD { echo := 0, verdict := .accepted, body := [] }
              summary := ((List.range 8).filter fun k => v.events.getLsbD k).length } }))
    ∧ (∀ f, (s.port p).line = .transaction f → exec (.selectFalls p) s = .next s)

/-- A port's pending answer: set by the end of a request, consumed by the next falling edge of select. -/
def Obligations.AnswersPassThroughSelect : Prop :=
  Says.AnswerBecomesPending ∧ Says.SelectFallsLoadsTheAnswer

/-- TAKE_EVENT removes the pending kind of the lowest number, enabled or not, and answers its number with both sets; on
an empty set it answers 0. -/
abbrev Sys2Proof.Says.TakeEventTakesTheHighestPriority : Prop :=
  ∀ (s : State) (p : Port), s.Reaches p 1 →
    let v := s.port p
    ((∀ k, k < (portKinds p).length → v.events.getLsbD k = false) →
      Answers (.takeEvent p) s s p 1 .accepted [0, v.events, v.enabled])
    ∧ (∀ k, k < (portKinds p).length → v.events.getLsbD k = true → (∀ j, j < k → v.events.getLsbD j = false) →
        let left := v.events &&& ~~~(1#8 <<< k)
        Answers (.takeEvent p) s (s.modifyPort p fun v => { v with events := left }) p 1 .accepted
          [BitVec.ofNat 8 (k + 1), left, v.enabled])

/-- SET_ATTENTION replaces the enable set by a mask of the port's own kinds and answers both sets; a mask with a higher
bit is refused. -/
abbrev Sys2Proof.Says.SetAttentionReplacesTheEnableSet : Prop :=
  ∀ (s : State) (p : Port) (mask : Byte), s.Reaches p 2 →
    ((∃ k, (portKinds p).length ≤ k ∧ mask.getLsbD k = true) → Refuses (.setAttention p mask) s p 2 .outOfRange)
    ∧ ((∀ k, (portKinds p).length ≤ k → mask.getLsbD k = false) →
        Answers (.setAttention p mask) s (s.modifyPort p fun v => { v with enabled := mask }) p 2 .accepted
          [mask, (s.port p).events])

/-- TAKE_EVENT and SET_ATTENTION. -/
def Obligations.EventAndEnableSets : Prop :=
  Says.TakeEventTakesTheHighestPriority ∧ Says.SetAttentionReplacesTheEnableSet

/-- Transactions whose bytes are no request: how each kind is answered when select is not ignored. -/
abbrev Sys2Proof.Says.FramesThatAreNoRequest : Prop :=
  ∀ (s : State) (p : Port),
    (∀ code, requestRow code.toNat = none →
      ((s.port p).line = .ignored →
        exec (.unknownRequest p code) s = .next (s.modifyPort p fun v => { v with line := .idle }))
      ∧ ((s.port p).line ≠ .ignored → Refuses (.unknownRequest p code) s p code .unknownRequest))
    ∧ (∀ bytes, judgeFrame p bytes = .incomplete →
      ((s.port p).line = .ignored →
        exec (.badLength p bytes) s = .next (s.modifyPort p fun v => { v with line := .idle }))
      ∧ ((s.port p).line ≠ .ignored → Refuses (.badLength p bytes) s p (byteAt bytes 0) .badLength))
    ∧ (∀ bytes, judgeFrame p bytes = .incomplete ↔
        (bytes.length < 2 ∨ 30 < (byteAt bytes 1).toNat ∨ bytes.length < 2 + (byteAt bytes 1).toNat))
    ∧ (∀ code row body, requestRow code.toNat = some row → lengthFits code row body.length = false →
        body.length ≤ 30 → (s.port p).line ≠ .ignored →
        Refuses (.badLength p (frameOf code body)) s p code (if allowed code p then .badLength else .wrongPort))
    ∧ (∀ body, body.length = 8 → 1 < (byteAt body 7).toNat → s.Reaches p 25 →
        Refuses (.badLength p (frameOf 25 body)) s p 25 .outOfRange)
    ∧ (∀ body, body.length = 6 → 1 < (byteAt body 5).toNat → s.Reaches p 63 →
        Refuses (.badLength p (frameOf 63 body)) s p 63 .outOfRange)

/-- Requests that a port turns away, and transactions that are no request. -/
def Obligations.WhatNeverReachesABlock : Prop :=
  Says.RequestsTurnedAwayAtThePort ∧ Says.FramesThatAreNoRequest

/-- No command takes a pending kind away but TAKE_EVENT on that port and the resets; and a port's pending answer,
select and enable set are touched by its own commands and the resets only. -/
def Obligations.PortsKeepWhatOthersSend : Prop :=
  ∀ (i : Instr) (s t : State) (q : Port), exec i s = .next t → i.resets = false →
    (i.takesEventOn q = false → (t.port q).events &&& (s.port q).events = (s.port q).events)
    ∧ (i.portOf ≠ some q →
        (t.port q).answer = (s.port q).answer ∧ (t.port q).line = (s.port q).line
          ∧ (t.port q).enabled = (s.port q).enabled)

/-! ### Reads -/

/-- The reads that no check of their own can refuse, and NOOP: the part is unchanged. (The model's choices in the bodies:
log entries 18, 21, 38 to 40 and 45.) -/
abbrev Sys2Proof.Says.ReadsWithoutChecksAnswer : Prop :=
  ∀ (s : State) (p : Port),
    (s.Reaches p 0 → Answers (.noop p) s s p 0 .accepted [])
    ∧ (s.Reaches p 7 → Answers (.windowRead p) s s p 7 .accepted s.windowBody)
    ∧ (s.Reaches p 8 → Answers (.pickRead p) s s p 8 .accepted s.pickBody)
    ∧ (s.Reaches p 9 → Answers (.bitRead p) s s p 9 .accepted s.bitBody)
    ∧ (s.Reaches p 10 → Answers (.spindleRead p) s s p 10 .accepted s.spindleBody)
    ∧ (s.Reaches p 14 → Answers (.insertRead p) s s p 14 .accepted s.insertBody)

/-- PANEL_READ, BOARD_READ, MAGAZINE_READ, REGISTER_READ and ENCODER_READ: what each refuses, and what each answers; the
part is unchanged. (The model's choices in the bodies: log entries 18, 38, 46 and 47.) -/
abbrev Sys2Proof.Says.ReadsWithChecksAnswer : Prop :=
  ∀ (s : State) (p : Port),
    (s.Reaches p 5 → ∀ r : Byte,
      (r.toNat < 1 ∨ 4 < r.toNat → Refuses (.panelRead p r) s p 5 .outOfRange)
      ∧ (∀ i : Fin 4, r.toNat = i.val + 1 → Answers (.panelRead p r) s s p 5 .accepted (s.panelBody i)))
    ∧ (s.Reaches p 6 → ∀ (sel : Selector) (b : Byte),
      (s.locateSelected sel b.toNat = none → Refuses (.boardRead p sel b) s p 6 .outOfRange)
      ∧ (∀ l, s.locateSelected sel b.toNat = some l → Answers (.boardRead p sel b) s s p 6 .accepted l.board.bytes))
    ∧ (s.Reaches p 11 → ∀ part k : Byte,
      (2 < part.toNat → Refuses (.magazineRead p part k) s p 11 .outOfRange)
      ∧ Answers (.magazineRead p 0 k) s s p 11 .accepted s.magazineHeader
      ∧ (s.magazine.session = none → part = 1 ∨ part = 2 → Refuses (.magazineRead p part k) s p 11 .wrongState)
      ∧ ∀ m, s.magazine.session = some m →
        (∀ slot, nth1 m.slots k.toNat = some slot → Answers (.magazineRead p 1 k) s s p 11 .accepted slot.bytes)
        ∧ (nth1 m.slots k.toNat = none → Refuses (.magazineRead p 1 k) s p 11 .outOfRange)
        ∧ (∀ e, nth1 m.manifest k.toNat = some e → Answers (.magazineRead p 2 k) s s p 11 .accepted e.bytes)
        ∧ (nth1 m.manifest k.toNat = none → Refuses (.magazineRead p 2 k) s p 11 .outOfRange))
    ∧ (s.Reaches p 12 →
      Answers (.registerRead p 0) s s p 12 .accepted (n32 s.magazine.register.length)
      ∧ ∀ k : Byte, k ≠ 0 →
        (∀ e, nth1 s.magazine.register k.toNat = some e →
          Answers (.registerRead p k) s s p 12 .accepted (e.bytes ++ n32 s.magazine.register.length))
        ∧ (nth1 s.magazine.register k.toNat = none → Refuses (.registerRead p k) s p 12 .outOfRange))
    ∧ (s.Reaches p 13 →
      Answers (.encoderRead p 0) s s p 13 .accepted s.encoderBody
      ∧ ∀ k : Byte, k ≠ 0 →
        (s.magazine.session = none → Refuses (.encoderRead p k) s p 13 .wrongState)
        ∧ ∀ m, s.magazine.session = some m →
          (m.type.slotCount < k.toNat → Refuses (.encoderRead p k) s p 13 .outOfRange)
          ∧ (k.toNat ≤ m.type.slotCount →
              Answers (.encoderRead p k) s s p 13 .accepted (s.encoderBody ++ bytes24 (m.type.pos k.toNat))))

/-- The read requests of every port, and NOOP (the model's choices in their bodies: log entries 18, 21, 38 to 40 and
45 to 47). -/
def Obligations.ReadsOfThePartAnswer : Prop :=
  Says.ReadsWithoutChecksAnswer ∧ Says.ReadsWithChecksAnswer

/-- RECIPE_READ, MANIFEST_READ, STATUS_READ and NEXT_POSITION: what each refuses, and what each answers; the part is
unchanged. (The model's choices in the bodies: log entries 18, 43, 46 and 48.) -/
def Obligations.ReadsOfTheCellAndHandlerAnswer : Prop :=
  ∀ (s : State) (p : Port),
    (s.Reaches p 21 → ∀ k b t : Byte,
      (k.toNat < 1 ∨ 4 < k.toNat ∨ 48 < b.toNat ∨ 8 < t.toNat → Refuses (.recipeRead p k b t) s p 21 .outOfRange)
      ∧ (∀ i : Fin 4, k.toNat = i.val + 1 → b.toNat ≤ 48 → t.toNat ≤ 8 →
          (s.recipes[i] = .empty → Answers (.recipeRead p k b t) s s p 21 .accepted [0])
          ∧ ∀ r, (s.recipes[i] = .opened r ∨ s.recipes[i] = .valid r) →
            Answers (.recipeRead p k b t) s s p 21 .accepted
              (n8 s.recipes[i].code ++ r.readBody (s.recipeInUse i) b.toNat t.toNat)))
    ∧ (s.Reaches p 31 → ∀ k : Byte,
      (s.magazine.closed = none → Refuses (.manifestRead p k) s p 31 .wrongState)
      ∧ ∀ c, s.magazine.closed = some c →
        (k = 0 → Answers (.manifestRead p k) s s p 31 .accepted
          (n32 c.tag ++ n8 c.typeNumber ++ n32 c.entries.length))
        ∧ (∀ e, k ≠ 0 → nth1 c.entries k.toNat = some e → Answers (.manifestRead p k) s s p 31 .accepted e.bytes)
        ∧ (k ≠ 0 → nth1 c.entries k.toNat = none → Refuses (.manifestRead p k) s p 31 .outOfRange))
    ∧ (s.Reaches p 42 → ∀ k : Byte,
      (12 < k.toNat → Refuses (.statusRead p k) s p 42 .outOfRange)
      ∧ (k = 0 → Answers (.statusRead p k) s s p 42 .accepted s.statusBody)
      ∧ (∀ f : FaultKind, k.toNat = f.number → Answers (.statusRead p k) s s p 42 .accepted (s.fault f).bytes))
    ∧ (s.Reaches p 77 →
      (s.targetBoard = none → Waits (.nextPosition p) s p 77 .nothingEligible)
      ∧ (s.magazine.session = none → Waits (.nextPosition p) s p 77 .nothingEligible)
      ∧ ∀ g m, s.targetBoard = some g → s.magazine.session = some m →
        Answers (.nextPosition p) s s p 77 .accepted
          (n8 g.first ++ n8 g.height ++ bytes24 (m.type.pos g.first) ++ n16 m.type.tolerance
            ++ flag (s.insertion.confirmation == some g.first)))

/-! ### Resets -/

/-- The state after reset keeps every relation of Safety.lean, the laws of the device among them. -/
def Obligations.ResetIsSafe : Prop :=
  SpindleSafe State.reset ∧ WindowSafe State.reset ∧ HoldsSafe State.reset ∧ BitSafe State.reset ∧ PortsSafe State.reset
    ∧ HandshakeSafe State.reset ∧ RegisterSafe State.reset ∧ StoreSafe State.reset ∧ PanelsSafe State.reset
    ∧ DeviceSafe State.reset

/-- What a power-on and a pin reset leave while the start-up read runs, whatever the state before: every block at its
reset value, the stored records and the line levels kept, a write in progress lost, and each port without an answer and
with RESET_DONE pending and every kind enabled. MODEL'S CHOICE: that the line levels, the select level and the built-in
constants stand while the read runs is log entries 11 and 32. -/
abbrev Sys2Proof.Says.PowerOnAndPinResetEmptyThePart : Prop :=
  ∀ s : State,
    let port := fun (v : PortState) (events enabled : Byte) =>
      ({ answer := none, line := if v.line = .idle then .idle else .ignored, events := events,
         enabled := enabled } : PortState)
    let t : State :=
      { recipes := Vector.replicate 4 .empty
        panels := { records := Vector.replicate 4 none, startOrder := [] }
        scheduler := { window := [], expiry := none, tag := 1, hangLimit := 3 }
        gripper := { claim := none, queue := [], wait := none }
        bit := { record := BitRecord.builtIn, worn := false, feedOverride := 100 }
        spindle := { state := .stopped, duty := 0, recipeRpm := 6000, override := 100, reference := 6000,
                     measurement := none, last := none, kickEdges := 0, strain := 0, miss := 0, kickTimer := none,
                     settleTimer := none, cause := none, controlPhase := 0 }
        magazine := { register := [], session := none, closed := none, binCount := 0, binCapacity := 20 }
        elevator := { counter := 0, homed := false, armed := false, captures := [], illegalCount := 0 }
        insertion := { permission := false, confirmation := none, insertion := none, wait := none }
        cell := { state := .unconfigured, holds := ⟨false, false, false, false, false⟩, parkTimer := none,
                  faults := defaultFaults, lastRaised := none }
        ports := { cell := port s.ports.cell 1 63, router := port s.ports.router 1 15, pick := port s.ports.pick 1 63,
                   magazine := port s.ports.magazine 1 31 }
        constants := Constants.builtIn
        store := { s.store with constantsFlags := .clear, bitFlags := .clear, registerFlags := .clear, writing := none }
        lines := s.lines
        starting := true
        pending := s.pending
        freeIndex := s.freeIndex }
    exec .powerOn s = .next t ∧ exec .pinReset s = .next t

/-- The completion of a power-on or pin reset: the working copies come from the valid records of the store and are
built-in for the others, the lines are sampled, the limits are the default ones, the worn flag follows W and Weol, and
HOMING_NEEDED joins RESET_DONE. Outside a start-up read the event has no effect (log entry 25). -/
def Obligations.StartUpReadCompletesTheReset : Prop :=
  ∀ (s : State) (lines : Lines),
    (s.starting = false → exec (.startUpReadEnd lines) s = .next s)
    ∧ (s.starting = true → ∃ t, exec (.startUpReadEnd lines) s = .next t
        ∧ t.starting = false
        ∧ t.constants = (if s.store.constantsValid then s.store.constants.contents else Constants.builtIn)
        ∧ t.bit.record = (if s.store.bitValid then s.store.bit.contents else BitRecord.builtIn)
        ∧ t.bit.worn = decide (t.bit.record.params.endOfLife ≤ t.bit.record.wear)
        ∧ t.magazine.register = (if s.store.registerValid then s.store.register.contents else [])
        ∧ t.cell.state = (if s.store.constantsValid then .standby else .unconfigured)
        ∧ t.scheduler.hangLimit = t.constants.defaultHangLimit
        ∧ t.magazine.binCapacity = t.constants.defaultBinCapacity
        ∧ t.lines = { encoderA := lines.encoderA, encoderB := lines.encoderB, reference := lines.reference,
                      seat := lines.seat, guard := lines.guard }
        ∧ t.store.writeProtect = lines.writeProtect
        ∧ t.store.constantsFlags.foundValid = s.store.constantsValid
        ∧ t.store.bitFlags.foundValid = s.store.bitValid ∧ t.store.registerFlags.foundValid = s.store.registerValid
        ∧ (∀ p, t.isPending p .resetDone = true ∧ (t.port p).enabled = allKinds p)
        ∧ t.isPending .magazine .homingNeeded = true
        ∧ (t.bit.worn = true → (s.fault .bitWorn).enabled = true →
            (t.fault .bitWorn).active = true ∧ t.isPending .cell .faultRaised = true)
        ∧ t.recipes = s.recipes ∧ t.panels = s.panels ∧ t.gripper = s.gripper ∧ t.spindle = s.spindle
        ∧ t.elevator = s.elevator ∧ t.insertion = s.insertion)

/-- CELL_RESET: BUSY while a store write runs; otherwise the soft reset. What it keeps, and what it empties. MODEL'S
CHOICE: that the sampled levels stay (t.lines = s.lines) is log entry 7, and that the control period begins at 0
(controlPhase := 0) is log entry 22. -/
abbrev Sys2Proof.Says.CellResetIsTheSoftReset : Prop :=
  ∀ (s : State) (p : Port), s.Reaches p 45 →
    (∀ w, s.store.writing = some w → Refuses (.cellReset p) s p 45 .busy)
    ∧ (s.store.writing = none → ∃ t, Answers (.cellReset p) s t p 45 .accepted []
        ∧ t.recipes = s.recipes ∧ t.constants = s.constants ∧ t.store = s.store ∧ t.lines = s.lines
        ∧ t.bit = { s.bit with feedOverride := 100 } ∧ t.magazine.register = s.magazine.register
        ∧ (∀ i : Fin 4, t.panels.records[i] = none) ∧ t.panels.startOrder = []
        ∧ t.scheduler = { window := [], expiry := none, tag := 1, hangLimit := s.constants.defaultHangLimit }
        ∧ t.gripper = { claim := none, queue := [], wait := none }
        ∧ t.spindle = { state := .stopped, duty := 0, recipeRpm := 6000, override := 100, reference := 6000,
                        measurement := none, last := none, kickEdges := 0, strain := 0, miss := 0, kickTimer := none,
                        settleTimer := none, cause := none, controlPhase := 0 }
        ∧ t.magazine.session = none ∧ t.magazine.closed = none ∧ t.magazine.binCount = 0
        ∧ t.magazine.binCapacity = s.constants.defaultBinCapacity
        ∧ t.elevator = { counter := 0, homed := false, armed := false, captures := [], illegalCount := 0 }
        ∧ t.insertion = { permission := false, confirmation := none, insertion := none, wait := none }
        ∧ t.cell.state = (if s.cell.state = .unconfigured then .unconfigured else .standby) ∧ t.cell.parkTimer = none
        ∧ (∀ k, (t.fault k).enabled = (s.fault k).enabled ∧ (t.fault k).action = (s.fault k).action
            ∧ (t.fault k).latch = (s.fault k).latch)
        ∧ (s.bit.worn = false →
            (∀ k, (t.fault k).count = 0 ∧ (t.fault k).active = false ∧ (t.fault k).latched = false)
            ∧ t.cell.holds.isEmpty = true ∧ t.cell.lastRaised = none)
        ∧ (s.bit.worn = true → (s.fault .bitWorn).enabled = true →
            (t.fault .bitWorn).count = 1 ∧ (t.fault .bitWorn).active = true ∧ t.isPending .cell .faultRaised = true)
        ∧ (∀ q, (t.port q).answer = none ∧ (t.port q).line = (s.port q).line
            ∧ (t.port q).enabled = allKinds q ∧ t.isPending q .resetDone = true)
        ∧ t.isPending .magazine .homingNeeded = true
        ∧ t.pending = s.pending)

/-- What a power-on, a pin reset and a soft reset leave (the model's choices in it: log entries 7, 11, 22 and 32). -/
def Obligations.ResetsEmptyThePart : Prop :=
  Says.PowerOnAndPinResetEmptyThePart ∧ Says.CellResetIsTheSoftReset

/-! ### Constants and the settings store -/

/-- CONSTANTS_WRITE's checks in their order, and the section replaced with the other sections as they were; an
UNCONFIGURED cell goes to STANDBY. MODEL'S CHOICE (log entry 42): the answer is the fields of the section alone, without
the section number and without padding. -/
def Obligations.ConstantsWriteReplacesOneSection : Prop :=
  ∀ (s : State) (p : Port) (f : ConstantsSection), s.Reaches p 43 → f.wellFormed = true →
    ((f.number = 0 ∨ 6 < f.number.toNat) → Refuses (.constantsWrite p f) s p 43 .outOfRange)
    ∧ (1 ≤ f.number.toNat → f.number.toNat ≤ 6 →
        (s.cell.state ≠ .standby → s.cell.state ≠ .unconfigured → Refuses (.constantsWrite p f) s p 43 .wrongState)
        ∧ ((s.cell.state = .standby ∨ s.cell.state = .unconfigured) →
            (s.constants.replace f = none → Refuses (.constantsWrite p f) s p 43 .outOfRange)
            ∧ (∀ c, s.constants.replace f = some c →
                Answers (.constantsWrite p f) s
                  (State.storeBegin { s with constants := c, cell := { s.cell with state := .standby } }) p 43 .accepted
                  f.fieldBytes)))
    ∧ (∀ (i : Fin 4) count pitch base tolerance, f = .magazineType (BitVec.ofNat 8 (i.val + 1)) count pitch base tolerance →
        s.constants.replace f =
          if 1 ≤ count.toNat ∧ count.toNat ≤ 60 ∧ 16 ≤ pitch.toNat ∧ pitch.toNat ≤ 1048575 ∧ 1 ≤ tolerance.toNat
              ∧ tolerance.toNat ≤ 4095 then
            let type : MagType :=
              { slotCount := count.toNat, pitch16 := pitch.toNat, base := base, tolerance := tolerance.toNat }
            some { s.constants with types := s.constants.types.set i type }
          else none)
    ∧ (∀ preset park seat hang bin, f = .cell preset park seat hang bin →
        s.constants.replace f =
          if park.toNat ≤ 600 ∧ 10 ≤ seat.toNat ∧ seat.toNat ≤ 500 ∧ 1 ≤ hang.toNat ∧ hang.toNat ≤ 8
              ∧ 1 ≤ bin.toNat then
            some { s.constants with homePreset := preset, parkDelay := park.toNat, seatSettle := seat.toNat,
                                    defaultHangLimit := hang.toNat, defaultBinCapacity := bin.toNat }
          else none)
    ∧ (∀ sr band coarse kickDuty kickTimeout startDuty rampRate settle miss stall,
        f = .spindle sr band coarse kickDuty kickTimeout startDuty rampRate settle miss stall →
        s.constants.replace f =
          if (sr = 1 ∨ sr = 2 ∨ sr = 4) ∧ 1 ≤ band.toNat ∧ band.toNat ≤ 32 ∧ 1 ≤ coarse.toNat ∧ coarse.toNat ≤ 64
              ∧ kickDuty.toNat ≤ 1023 ∧ (kickTimeout = 500 ∨ kickTimeout = 1000 ∨ kickTimeout = 2000 ∨ kickTimeout = 4000)
              ∧ startDuty.toNat ≤ 1023 ∧ 10 ≤ rampRate.toNat ∧ rampRate.toNat ≤ 2000 ∧ 1 ≤ settle.toNat
              ∧ settle.toNat ≤ 60 ∧ 1 ≤ miss.toNat ∧ miss.toNat ≤ 8 ∧ 1 ≤ stall.toNat ∧ stall.toNat ≤ 8 then
            let spindle : SpindleConstants :=
              { sr := sr.toNat, band := band.toNat, coarseStep := coarse.toNat, kickDuty := kickDuty.toNat,
                kickTimeout := kickTimeout.toNat, startDuty := startDuty.toNat, rampRate := rampRate.toNat,
                settleLimit := settle.toNat, missDepth := miss.toNat, stallDepth := stall.toNat }
            some { s.constants with spindle := spindle }
          else none)

/-- STORE_SAVE: record 0 reads, a record above 3 is refused, an active write-protect sample refuses 1..3, and otherwise
the record's flag and explicit mark are set and a free store begins its write. The answer carries the store for every
record number 0..3, the refusal PROTECTED among them. MODEL'S CHOICES: the store's three records have no count byte
before them (log entry 46), the record being written is its number 1 to 3 behind a presence byte (log entry 49), and
the refusal of a record above 3 has no body (log entry 37). -/
abbrev Sys2Proof.Says.StoreSaveQueuesAnExplicitSave : Prop :=
  ∀ (s : State) (p : Port) (k : Byte), s.Reaches p 44 →
    (k = 0 → Answers (.storeSave p k) s s p 44 .accepted s.storeBody)
    ∧ (3 < k.toNat → Refuses (.storeSave p k) s p 44 .outOfRange)
    ∧ (∀ r : RecordId, k.toNat = r.number →
        (s.store.writeProtect = true → Answers (.storeSave p k) s s p 44 (.refused .protectedStore) s.storeBody)
        ∧ (s.store.writeProtect = false →
            let queued := { s with store := s.store.setFlags r { s.store.flags r with pending := true, explicit := true } }
            Answers (.storeSave p k) s queued.storeBegin p 44 .accepted queued.storeBegin.storeBody))

/-- A free store with a pending flag begins a write, of CONSTANTS before BIT before REGISTER: the flag is cleared, the
explicit mark passes to the write, the marker is erased and the working copy is what is written. A store that writes, or
has no flag set, stays as it is. (When the contents change is log entry 24.) -/
abbrev Sys2Proof.Says.FreeStoreBeginsAWrite : Prop :=
  ∀ s : State,
    let begins := fun (r : RecordId) (t : State) =>
      t.store.writing = some { record := r, explicit := (s.store.flags r).explicit }
        ∧ t.store.flags r = { s.store.flags r with pending := false, explicit := false }
        ∧ (∀ q, q ≠ r → t.store.flags q = s.store.flags q) ∧ t.store.writeProtect = s.store.writeProtect
        ∧ t.store.constants =
            (if r = .constants then { marker := false, contents := s.constants } else s.store.constants)
        ∧ t.store.bit = (if r = .bit then { marker := false, contents := s.bit.record } else s.store.bit)
        ∧ t.store.register =
            (if r = .register then { marker := false, contents := s.magazine.register } else s.store.register)
    { s.storeBegin with store := s.store } = s
    ∧ (∀ w, s.store.writing = some w → s.storeBegin = s)
    ∧ (s.store.writing = none →
        (s.store.constantsFlags.pending = true → begins .constants s.storeBegin)
        ∧ (s.store.constantsFlags.pending = false →
            (s.store.bitFlags.pending = true → begins .bit s.storeBegin)
            ∧ (s.store.bitFlags.pending = false →
                (s.store.registerFlags.pending = true → begins .register s.storeBegin)
                ∧ (s.store.registerFlags.pending = false → s.storeBegin = s))))

/-- The automatic save of a record, as the bit wear unit and the magazine map queue it: the pending flag is set and the
explicit mark kept; while the write-protect sample is active it is dropped without fault. -/
abbrev Sys2Proof.Says.AutomaticSaveSetsThePendingFlag : Prop :=
  ∀ (s : State) (r : RecordId),
    (s.store.writeProtect = true → s.queueSave r = s)
    ∧ (s.store.writeProtect = false →
        s.queueSave r = { s with store := s.store.setFlags r { s.store.flags r with pending := true } })

/-- The store when a running write has ended, before the next one begins: the outcome recorded, the marker written or left
absent, and no write running. -/
abbrev Sys2Proof.Machine.State.writeEnded (s : State) (w : StoreWrite) (ok : Bool) : State :=
  let outcome : SaveOutcome := if ok then .done else .failed
  let noted := s.store.setFlags w.record { s.store.flags w.record with outcome := outcome }
  { s with store := { noted.setMarker w.record ok with writing := none } }

/-- The end of a store write: the marker is written if the read-back matches and left absent if not, the outcome is
recorded, a failure raises STORE_FAILURE, STORE_DONE answers an explicit mark, and the next pending write begins; a
failure that parks a working cell queues a BIT save first. MODEL'S CHOICE (log entry 25): with no write running the event
has no effect of its own. -/
abbrev Sys2Proof.Says.StoreWriteEnds : Prop :=
  ∀ s : State, s.starting = false →
    (∀ ok, s.store.writing = none → exec (.storeWriteEnd ok) s = .next s.storeBegin)
    ∧ (∀ w, s.store.writing = some w →
        (∃ t, exec (.storeWriteEnd true) s = .next t
          ∧ t.store = (s.writeEnded w true).storeBegin.store
          ∧ (w.explicit = true → t.isPending .cell .storeDone = true)
          ∧ { t with store := s.store, ports := s.ports } = s)
        ∧ (∃ t, exec (.storeWriteEnd false) s = .next t
          ∧ (let parks := (s.fault .storeFailure).enabled = true ∧ (s.fault .storeFailure).action = .park ∧ s.working
             (parks → t.store = ((s.writeEnded w false).queueSave .bit).storeBegin.store ∧ t.cell.state = .park)
               ∧ (¬ parks → t.store = (s.writeEnded w false).storeBegin.store))
          ∧ (w.record = .constants → t.store.constants.marker = false)
          ∧ (w.record = .bit → t.store.bit.marker = false)
          ∧ (w.record = .register → t.store.register.marker = false)
          ∧ (t.store.flags w.record).outcome = .failed
          ∧ (w.explicit = true → t.isPending .cell .storeDone = true)
          ∧ ((s.fault .storeFailure).enabled = true →
              (t.fault .storeFailure).count = min 255 ((s.fault .storeFailure).count + 1)
              ∧ t.isPending .cell .faultRaised = true)
          ∧ t.bit = s.bit ∧ t.constants = s.constants ∧ t.magazine = s.magazine ∧ t.panels = s.panels))

/-- The settings store: a save asked for or queued, a write begun, a write ended (the model's choices in it: log entries
24, 25 and 37). -/
def Obligations.StoreSavesAndWrites : Prop :=
  Says.StoreSaveQueuesAnExplicitSave ∧ Says.FreeStoreBeginsAWrite ∧ Says.AutomaticSaveSetsThePendingFlag
    ∧ Says.StoreWriteEnds

/-! ### Cell control -/

/-- HOLD_SET and HOLD_CLEAR: the port's own member changes; in RUN a set that becomes non-empty takes the cell to HOLD
and loads the park timer, in HOLD one that becomes empty takes it to RUN; the answer carries the set. Nothing else
changes but event sets and a pending store write. -/
def Obligations.HoldRequestsChangeTheirMember : Prop :=
  ∀ (s : State) (p : Port) (set : Bool), HoldsSafe s →
    let code : Byte := if set then 3 else 4
    let h := s.cell.holds.setPort p set
    s.Reaches p code → ∃ t, Answers (if set then .holdSet p else .holdClear p) s t p code .accepted [BitVec.ofNat 8 h.mask]
      ∧ t.cell.holds = h ∧ t.cell.faults = s.cell.faults ∧ t.cell.lastRaised = s.cell.lastRaised
      ∧ (s.cell.state = .run → h.isEmpty = false → t.cell.state = .hold ∧ t.cell.parkTimer = s.loadedPark
          ∧ (s.permitted = true → t.isPending .router .cuttingStopped = true))
      ∧ (s.cell.state = .hold → h.isEmpty = true → t.cell.state = .run ∧ t.cell.parkTimer = none)
      ∧ (¬ (s.cell.state = .run ∧ h.isEmpty = false) → ¬ (s.cell.state = .hold ∧ h.isEmpty = true) →
          t.cell.state = s.cell.state ∧ t.cell.parkTimer = s.cell.parkTimer)
      ∧ t.store = s.storeBegin.store ∧ { t with cell := s.cell, store := s.store, ports := s.ports } = s

/-- Raising a fault kind. A kind that is not enabled only has its active status set, if it is persistent. An enabled one
is counted, latched if it latches, posted and shown as the last raised, and its action is applied. -/
def Obligations.RaisingAFaultCountsAndActs : Prop :=
  ∀ (s : State) (k : FaultKind), HoldsSafe s →
    ((s.fault k).enabled = false →
      s.raise k = s.modifyFault k fun e => { e with active := e.active || k.persistent })
    ∧ ((s.fault k).enabled = true →
        (s.raise k).fault k =
          { s.fault k with count := min 255 ((s.fault k).count + 1), active := (s.fault k).active || k.persistent,
                           latched := (s.fault k).latched || (s.fault k).latch }
        ∧ (∀ j, j ≠ k → (s.raise k).fault j = s.fault j)
        ∧ (s.raise k).cell.lastRaised = some k ∧ (s.raise k).isPending .cell .faultRaised = true
        ∧ (s.raise k).cell.holds = { s.cell.holds with fault := (s.raise k).faultHolds }
        ∧ ((s.fault k).action = .note → (s.raise k).cell.state = s.cell.state ∧ (s.raise k).store = s.store)
        ∧ ((s.fault k).action = .hold →
            (s.cell.state = .run → (s.raise k).faultHolds = true →
              (s.raise k).cell.state = .hold ∧ (s.raise k).cell.parkTimer = s.loadedPark)
            ∧ (¬ (s.cell.state = .run ∧ (s.raise k).faultHolds = true) → (s.raise k).cell.state = s.cell.state))
        ∧ ((s.fault k).action = .park →
            ((s.cell.state = .run ∨ s.cell.state = .hold) →
              (s.raise k).cell.state = .park ∧ (s.raise k).cell.parkTimer = none
                ∧ (s.raise k).spindle.state.turning = false
                ∧ (∀ g ∈ (s.raise k).scheduler.window, g.live = false)
                ∧ (s.raise k).store = (s.queueSave .bit).store)
            ∧ (s.cell.state ≠ .run → s.cell.state ≠ .hold →
                (s.raise k).cell.state = s.cell.state ∧ (s.raise k).store = s.store)))

/-- CELL_START from STANDBY and CELL_RESUME from PARK: the checks in their order, then RUN with an empty hold set and
HOLD, with the park timer loaded, with one that is not, and START to the spindle loop. -/
abbrev Sys2Proof.Says.StartAndResumeGoToWork : Prop :=
  ∀ (s : State) (p : Port), ∀ x ∈ ([(.cellStart p, 35, .standby), (.cellResume p, 37, .park)] : List (Instr × Byte × CellState)),
    s.Reaches p x.2.1 →
    (s.cell.state ≠ x.2.2 → Refuses x.1 s p x.2.1 .wrongState)
    ∧ (s.cell.state = x.2.2 →
        (s.lines.guard = false → Refuses x.1 s p x.2.1 .guardOpen)
        ∧ (s.lines.guard = true → s.spindle.state = .faulted → Refuses x.1 s p x.2.1 .wrongState)
        ∧ (s.lines.guard = true → s.spindle.state ≠ .faulted → ∃ t,
            Answers x.1 s t p x.2.1 .accepted [if s.cell.holds.isEmpty then 2 else 3]
            ∧ t.cell = { s.cell with state := if s.cell.holds.isEmpty then .run else .hold
                                     parkTimer := if s.cell.holds.isEmpty then none else s.loadedPark }
            ∧ t.spindle = s.startedSpindle ∧ t.store = s.storeBegin.store
            ∧ { t with cell := s.cell, spindle := s.spindle, store := s.store, ports := s.ports } = s))

/-- CELL_PARK and CELL_STOP: where each is refused, where each changes nothing, and the entry to PARK or STANDBY. -/
abbrev Sys2Proof.Says.ParkAndStopBringTheCellToRest : Prop :=
  ∀ (s : State) (p : Port),
    (s.Reaches p 36 →
      (s.cell.state = .unconfigured ∨ s.cell.state = .standby → Refuses (.cellPark p) s p 36 .wrongState)
      ∧ (s.cell.state = .park → Answers (.cellPark p) s s p 36 .accepted [4])
      ∧ (s.working → ∃ t, Answers (.cellPark p) s t p 36 .accepted [4] ∧ ParkEntered s t))
    ∧ (s.Reaches p 38 →
      (s.cell.state = .unconfigured → Refuses (.cellStop p) s p 38 .wrongState)
      ∧ (s.cell.state = .standby → Answers (.cellStop p) s s p 38 .accepted [1])
      ∧ (s.working ∨ s.cell.state = .park → ∃ t, Answers (.cellStop p) s t p 38 .accepted [1]
          ∧ t.cell = { s.cell with state := .standby, parkTimer := none } ∧ WindowRevoked s t ∧ SpindleStopped s t
          ∧ t.store = s.storeBegin.store ∧ (s.permitted = true → t.isPending .router .cuttingStopped = true)
          ∧ { t with cell := s.cell, scheduler := s.scheduler, spindle := s.spindle, store := s.store,
                     ports := s.ports } = s))

/-- CELL_START, CELL_RESUME, CELL_PARK and CELL_STOP. -/
def Obligations.CellStatesChangeByTheirRequests : Prop :=
  Says.StartAndResumeGoToWork ∧ Says.ParkAndStopBringTheCellToRest

/-- The park timer running out parks the cell; the guard opening stops the spindle and parks a cell in RUN or HOLD, and
elsewhere, where the spindle is at rest, only sets the level; the guard closing only sets the level. -/
def Obligations.ParkTimerAndGuardActOnTheCell : Prop :=
  ∀ s : State, s.starting = false →
    (s.cell.parkTimer = none → exec .parkTimer s = .next s.storeBegin)
    ∧ (∀ x, s.cell.parkTimer = some x → ∃ t, exec .parkTimer s = .next t ∧ ParkEntered s t)
    ∧ exec .guardCloses s = .next (State.storeBegin { s with lines := { s.lines with guard := true } })
    ∧ (s.lines.guard = false → exec .guardOpens s = .next s.storeBegin)
    ∧ (s.lines.guard = true →
        (s.working → ∃ t, exec .guardOpens s = .next t
          ∧ ParkEntered { s with lines := { s.lines with guard := false } } t)
        ∧ (¬ s.working → WindowSafe s →
            exec .guardOpens s = .next (State.storeBegin { s with lines := { s.lines with guard := false } })))

/-- FAULT_RESPONSE: its checks in their order; the three settings replaced with the statuses kept, FAULT re-evaluated,
and a persistent kind switched on while its condition is active raised at that moment. -/
def Obligations.FaultResponseReplacesTheSettings : Prop :=
  ∀ (s : State) (p : Port) (kind enable action latch : Byte), s.Reaches p 39 → HoldsSafe s →
    (2 < action.toNat ∨ kind.toNat < 1 ∨ 12 < kind.toNat →
      Refuses (.faultResponse p kind enable action latch) s p 39 .outOfRange)
    ∧ (∀ k act, kind.toNat = k.number → actionOf action = some act →
        (s.cell.state = .run → Refuses (.faultResponse p kind enable action latch) s p 39 .wrongState)
        ∧ (s.cell.state ≠ .run → ∃ t,
            Answers (.faultResponse p kind enable action latch) s t p 39 .accepted (t.fault k).bytes
            ∧ (∀ j, j ≠ k → t.fault j = s.fault j) ∧ t.cell.holds = { s.cell.holds with fault := t.faultHolds }
            ∧ t.panels = s.panels ∧ t.bit = s.bit ∧ t.magazine = s.magazine ∧ t.constants = s.constants
            ∧ (let switchedOn := enable ≠ 0 ∧ (s.fault k).enabled = false ∧ k.persistent = true ∧ (s.fault k).active = true
               let e := { s.fault k with enabled := decide (enable ≠ 0), action := act, latch := decide (latch ≠ 0) }
               (¬ switchedOn → t.fault k = e ∧ t.spindle = s.spindle ∧ t.scheduler = s.scheduler
                  ∧ t.cell.lastRaised = s.cell.lastRaised
                  ∧ t.cell.state = (if s.cell.state = .hold ∧ t.cell.holds.isEmpty = true then .run else s.cell.state))
               ∧ (switchedOn → t.fault k = { e with count := min 255 (e.count + 1), latched := e.latched || e.latch }
                  ∧ t.cell.lastRaised = some k ∧ t.isPending .cell .faultRaised = true
                  ∧ (act = .park → s.cell.state = .hold → t.cell.state = .park)))))

/-- FAULT_CLEAR: the latched status becomes clear and FAULT is re-evaluated, which can take a cell in HOLD to RUN; the
count, the active status and the settings stay. -/
def Obligations.FaultClearClearsTheLatch : Prop :=
  ∀ (s : State) (p : Port) (kind : Byte), s.Reaches p 40 → HoldsSafe s →
    (kind.toNat < 1 ∨ 12 < kind.toNat → Refuses (.faultClear p kind) s p 40 .outOfRange)
    ∧ (∀ k, kind.toNat = k.number → ∃ t, Answers (.faultClear p kind) s t p 40 .accepted (t.fault k).bytes
        ∧ t.fault k = { s.fault k with latched := false } ∧ (∀ j, j ≠ k → t.fault j = s.fault j)
        ∧ t.cell.holds = { s.cell.holds with fault := t.faultHolds } ∧ t.cell.lastRaised = s.cell.lastRaised
        ∧ t.cell.state = (if s.cell.state = .hold ∧ t.cell.holds.isEmpty = true then .run else s.cell.state)
        ∧ t.store = s.storeBegin.store ∧ { t with cell := s.cell, store := s.store, ports := s.ports } = s)

/-- SET_LIMITS: the hang limit is checked first and the bin capacity next, and a refusal of either changes nothing; an
accepted request puts all four values in force, with the overrides and the hang limit clamped, and answers them. -/
def Obligations.SetLimitsPutsAllFourInForce : Prop :=
  ∀ (s : State) (p : Port) (hang speed feed bin : Byte), s.Reaches p 41 →
    let i := Instr.setLimits p hang speed feed bin
    let limit := min 8 hang.toNat
    (hang = 0 → Refuses i s p 41 .outOfRange)
    ∧ (hang ≠ 0 → limit < s.hangCommitted → Refuses i s p 41 .limitBelowUse)
    ∧ (hang ≠ 0 → s.hangCommitted ≤ limit → bin = 0 → Refuses i s p 41 .outOfRange)
    ∧ (hang ≠ 0 → s.hangCommitted ≤ limit → bin ≠ 0 → bin.toNat < s.placesInUse → Refuses i s p 41 .limitBelowUse)
    ∧ (hang ≠ 0 → s.hangCommitted ≤ limit → bin ≠ 0 → s.placesInUse ≤ bin.toNat → ∃ t,
        Answers i s t p 41 .accepted
          [BitVec.ofNat 8 limit, BitVec.ofNat 8 (min 120 (max 50 speed.toNat)),
           BitVec.ofNat 8 (min 150 (max 25 feed.toNat)), bin]
        ∧ t.scheduler.hangLimit = limit ∧ t.spindle.override = min 120 (max 50 speed.toNat)
        ∧ t.bit = { s.bit with feedOverride := min 150 (max 25 feed.toNat) } ∧ t.magazine.binCapacity = bin.toNat
        ∧ t.magazine.binCount = s.magazine.binCount
        ∧ (bin.toNat ≠ s.magazine.binCount → (t.fault .rejectFull).active = false)
        ∧ (bin.toNat = s.magazine.binCount → s.magazine.binCapacity ≠ s.magazine.binCount →
            (t.fault .rejectFull).active = true)
        ∧ t.panels = s.panels ∧ t.magazine.session = s.magazine.session ∧ t.gripper.claim = s.gripper.claim
        ∧ t.gripper.queue = s.gripper.queue)

/-! ### Recipes -/

/-- RECIPE_OPEN: its refusals, and the slot OPEN with the header as given and nothing defined. -/
abbrev Sys2Proof.Says.RecipeOpenBeginsAnEmptyRecipe : Prop :=
  ∀ (s : State) (p : Port) (slot n : Byte) (rpm feed limit : Word16), s.Reaches p 16 →
    let i := Instr.recipeOpen p slot n rpm feed limit
    (slot.toNat < 1 ∨ 4 < slot.toNat ∨ n.toNat < 1 ∨ 48 < n.toNat → Refuses i s p 16 .outOfRange)
    ∧ (∀ k : Fin 4, slot.toNat = k.val + 1 → 1 ≤ n.toNat → n.toNat ≤ 48 →
        ((∃ (r : Fin 4) (panel : Panel), s.panels.records[r] = some panel ∧ panel.recipe = k) → Refuses i s p 16 .inUse)
        ∧ ((∀ (r : Fin 4) (panel : Panel), s.panels.records[r] = some panel → panel.recipe ≠ k) →
            Answers i s (State.storeBegin { s with recipes := s.recipes.set k (.opened
              { header := { boardCount := n.toNat, rpm := rpm.toNat, feed := feed.toNat, cutLimit := limit.toNat }
                items := List.replicate n.toNat { definition := none, tabs := Vector.replicate 8 none } }) })
              p 16 .accepted []))

/-- RECIPE_BOARD and RECIPE_TAB: the checks in their order, and the one definition written with every other one kept. -/
abbrev Sys2Proof.Says.RecipeItemsAreWritten : Prop :=
  ∀ (s : State) (p : Port), PanelsSafe s →
    (s.Reaches p 17 → ∀ (slot b rank height : Byte) (x y : Word16) (n : Byte),
      let i := Instr.recipeBoard p slot b rank height x y n
      (slot.toNat < 1 ∨ 4 < slot.toNat → Refuses i s p 17 .outOfRange)
      ∧ ∀ k : Fin 4, slot.toNat = k.val + 1 →
        ((∀ r, s.recipes[k] ≠ .opened r) → Refuses i s p 17 .wrongState)
        ∧ ∀ r, s.recipes[k] = .opened r →
          (b.toNat < 1 ∨ r.header.boardCount < b.toNat → Refuses i s p 17 .outOfRange)
          ∧ (1 ≤ b.toNat → b.toNat ≤ r.header.boardCount →
              let d : BoardDef :=
                { rank := rank.toNat, height := height.toNat, pickX := x.toNat, pickY := y.toNat, tabCount := n.toNat }
              let items := r.items.modify (b.toNat - 1) fun item => { item with definition := some d }
              Answers i s (State.storeBegin { s with recipes := s.recipes.set k (.opened { r with items := items }) })
                p 17 .accepted []))
    ∧ (s.Reaches p 18 → ∀ (slot b t role : Byte) (x y heading : Word16) (len : Byte),
      let i := Instr.recipeTab p slot b t role x y heading len
      (slot.toNat < 1 ∨ 4 < slot.toNat → Refuses i s p 18 .outOfRange)
      ∧ ∀ k : Fin 4, slot.toNat = k.val + 1 →
        ((∀ r, s.recipes[k] ≠ .opened r) → Refuses i s p 18 .wrongState)
        ∧ ∀ r, s.recipes[k] = .opened r →
          (b.toNat < 1 ∨ r.header.boardCount < b.toNat ∨ t.toNat < 1 ∨ 8 < t.toNat → Refuses i s p 18 .outOfRange)
          ∧ ∀ m : Fin 8, 1 ≤ b.toNat → b.toNat ≤ r.header.boardCount → t.toNat = m.val + 1 →
              let d : TabDef :=
                { role := role.toNat, x := x.toNat, y := y.toNat, heading := heading.toNat, cutLength := len.toNat }
              let items := r.items.modify (b.toNat - 1) fun item => { item with tabs := item.tabs.set m (some d) }
              Answers i s (State.storeBegin { s with recipes := s.recipes.set k (.opened { r with items := items }) })
                p 18 .accepted [])

/-- RECIPE_OPEN, RECIPE_BOARD and RECIPE_TAB. -/
def Obligations.RecipeIsOpenedAndFilled : Prop :=
  Says.RecipeOpenBeginsAnEmptyRecipe ∧ Says.RecipeItemsAreWritten

/-- RECIPE_CLOSE: an OPEN recipe with no failing check becomes VALID without the tab definitions above each board's tab
count; one with a failing check stays, and the answer names the check. No check fails exactly when every range holds,
everything within the counts is defined, and every board has a HOLD tab. -/
def Obligations.RecipeCloseValidates : Prop :=
  ∀ (s : State) (p : Port) (slot : Byte), s.Reaches p 19 → PanelsSafe s →
    let i := Instr.recipeClose p slot
    (slot.toNat < 1 ∨ 4 < slot.toNat → Refuses i s p 19 .outOfRange)
    ∧ ∀ k : Fin 4, slot.toNat = k.val + 1 →
      ((∀ r, s.recipes[k] ≠ .opened r) → Refuses i s p 19 .wrongState)
      ∧ ∀ r, s.recipes[k] = .opened r →
        (∀ b t kind, r.failure = some (b, t, kind) →
          Answers i s s p 19 (.refused .outOfRange) [BitVec.ofNat 8 b, BitVec.ofNat 8 t, BitVec.ofNat 8 kind.code])
        ∧ (r.failure = none → ∃ valid : Recipe,
            Answers i s (State.storeBegin { s with recipes := s.recipes.set k (.valid valid) }) p 19 .accepted []
            ∧ valid.header = r.header ∧ valid.items.length = r.items.length
            ∧ ∀ b, valid.board b = r.board b
              ∧ ∀ t, valid.tab b t = if ((r.board b).any fun d => decide (t ≤ d.tabCount)) = true then r.tab b t else none)
        ∧ (r.failure = none ↔
            (6000 ≤ r.header.rpm ∧ r.header.rpm ≤ 60000) ∧ (1 ≤ r.header.feed ∧ r.header.feed ≤ 1000)
              ∧ (100 ≤ r.header.cutLimit ∧ r.header.cutLimit ≤ 60000)
              ∧ ∀ item ∈ r.items, ∃ d, item.definition = some d ∧ (d.height = 1 ∨ d.height = 2)
                ∧ 1 ≤ d.tabCount ∧ d.tabCount ≤ 8
                ∧ (∀ t, 1 ≤ t → t ≤ d.tabCount → ∃ x, item.tab t = some x ∧ x.role ≤ 1 ∧ x.heading ≤ 359
                    ∧ 5 ≤ x.cutLength ∧ x.cutLength ≤ 250)
                ∧ ∃ t x, 1 ≤ t ∧ t ≤ d.tabCount ∧ item.tab t = some x ∧ x.role = 1)

/-- RECIPE_ERASE empties a slot. -/
def Obligations.RecipeEraseEmptiesTheSlot : Prop :=
  ∀ (s : State) (p : Port) (slot : Byte), s.Reaches p 20 →
    let i := Instr.recipeErase p slot
    (slot.toNat < 1 ∨ 4 < slot.toNat → Refuses i s p 20 .outOfRange)
    ∧ (∀ k : Fin 4, slot.toNat = k.val + 1 →
        ((∃ (r : Fin 4) (panel : Panel), s.panels.records[r] = some panel ∧ panel.recipe = k) → Refuses i s p 20 .inUse)
        ∧ ((∀ (r : Fin 4) (panel : Panel), s.panels.records[r] = some panel → panel.recipe ≠ k) →
            Answers i s (State.storeBegin { s with recipes := s.recipes.set k .empty }) p 20 .accepted []))

/-! ### Panels -/

/-- PANEL_START: the eight checks in their order, and the record made in the lowest FREE place. -/
abbrev Sys2Proof.Says.PanelStartChecksAndStarts : Prop :=
  ∀ (s : State) (p : Port) (fixture slot : Byte) (serial : Word32) (xouts : List Byte), s.Reaches p 22 →
    xouts.length ≤ 24 →
    let i := Instr.panelStart p fixture slot serial xouts
    ((fixture ≠ 1 ∧ fixture ≠ 2) ∨ slot.toNat < 1 ∨ 4 < slot.toNat → Refuses i s p 22 .outOfRange)
    ∧ ∀ (f : Fixture) (k : Fin 4), fixture = (match f with | .a => 1 | .b => 2) → slot.toNat = k.val + 1 →
      (s.cell.state = .unconfigured → Refuses i s p 22 .wrongState)
      ∧ (s.cell.state ≠ .unconfigured →
        ((s.recordOnFixture f).isSome = true ∨ (s.recordOfSerial serial.toNat).isSome = true → Refuses i s p 22 .inUse)
        ∧ (s.recordOnFixture f = none → s.recordOfSerial serial.toNat = none →
          ((∀ r, s.recipes[k] ≠ .valid r) → Refuses i s p 22 .wrongState)
          ∧ ∀ r, s.recipes[k] = .valid r →
            let boards := r.newBoards (xouts.map (·.toNat))
            let hanging := (hangingBoards boards).map fun b => ({ serial := serial.toNat, board := b } : BoardId)
            ((∃ x ∈ xouts, x.toNat < 1 ∨ r.header.boardCount < x.toNat) → Refuses i s p 22 .outOfRange)
            ∧ ((∀ x ∈ xouts, 1 ≤ x.toNat ∧ x.toNat ≤ r.header.boardCount) →
              ((∀ n : Fin 4, s.panels.records[n] ≠ none) → Refuses i s p 22 .tableFull)
              ∧ ∀ n : Fin 4, s.panels.records[n] = none → (∀ m : Fin 4, m < n → s.panels.records[m] ≠ none) →
                (s.scheduler.hangLimit < s.hangCommitted + hanging.length → Refuses i s p 22 .hangFull)
                ∧ (s.hangCommitted + hanging.length ≤ s.scheduler.hangLimit → ∃ t,
                    Answers i s t p 22 .accepted
                      (BitVec.ofNat 8 (n.val + 1) :: n32 (t.panels.startOrder.idxOf n + 1))
                    ∧ t.panels.records = s.panels.records.set n (some
                        { state := .active f, recipe := k, serial := serial.toNat, boards := boards, stowed := 0,
                          rejected := 0, lost := 0, abandoned := 0 })
                    ∧ t.panels.startOrder = s.panels.startOrder ++ [n]
                    ∧ t.gripper.queue = s.gripper.queue ++ hanging ∧ t.gripper.claim = s.gripper.claim
                    ∧ (hanging ≠ [] → t.isPending .pick .boardHanging = true)
                    ∧ t.store = s.storeBegin.store
                    ∧ { t with panels := s.panels, gripper := s.gripper, spindle := s.spindle, store := s.store,
                               ports := s.ports } = s))))

/-- A board record as PANEL_START makes it from a definition. -/
abbrev Sys2Proof.Says.NewBoardRecord : Prop :=
  ∀ (d : BoardDef) (item : BoardItem) (xout : Bool),
    let holds := fun t => ((item.tab t).map (·.role)) == some 1
    let free := ((List.range' 1 d.tabCount).filter fun t => !holds t).length
    newBoard d item xout =
      { rank := d.rank, height := d.height, xout := xout, state := if free = 0 then .hanging else .cutting,
        freeUncut := free, holdUncut := ((List.range' 1 d.tabCount).filter holds).length, review := none,
        destination := none, divert := false, tabs := List.replicate d.tabCount .uncut }

/-- PANEL_START, and the board records it makes. -/
def Obligations.PanelStartMakesARecord : Prop :=
  Says.PanelStartChecksAndStarts ∧ Says.NewBoardRecord

/-- A board that changes state adds to its panel's count of that name, and its record is re-examined: ACTIVE with no
attached board becomes DRAINING, DRAINING with terminal boards only becomes FINISHED, and FINISHED posts PANEL_DONE and
queues a BIT save. Nothing else changes. -/
def Obligations.BoardMovesReexamineTheRecord : Prop :=
  ∀ (s : State) (i : Fin 4) (b : Nat) (st : BoardState) (panel : Panel) (board : Board),
    s.panels.records[i] = some panel → nth1 panel.boards b = some board →
    let t := s.moveBoard i b st
    ∃ q, t.panels = { s.panels with records := s.panels.records.set i (some q) }
      ∧ nth1 q.boards b = some { board with state := st }
      ∧ (∀ c, c ≠ b → nth1 q.boards c = nth1 panel.boards c)
      ∧ q.recipe = panel.recipe ∧ q.serial = panel.serial
      ∧ q.stowed = panel.stowed + (if st = .stowed then 1 else 0)
      ∧ q.rejected = panel.rejected + (if st = .rejected then 1 else 0)
      ∧ q.lost = panel.lost + (if st = .lost then 1 else 0)
      ∧ q.abandoned = panel.abandoned + (if st = .abandoned then 1 else 0)
      ∧ (let attached := q.boards.any fun x => x.state.attached
         let done := q.boards.all fun x => x.state.terminal
         q.state = match panel.state with
           | .active f => if attached then .active f else if done then .finished else .draining
           | .draining => if done then .finished else .draining
           | .finished => .finished)
      ∧ (q.state = .finished → panel.state ≠ .finished →
          t.isPending .cell .panelDone = true ∧ t.store = (s.queueSave .bit).store)
      ∧ (¬ (q.state = .finished ∧ panel.state ≠ .finished) → { t with panels := s.panels } = s)
      ∧ { t with panels := s.panels, store := s.store, ports := s.ports } = s

/-- PANEL_ABORT of an ACTIVE panel: attached boards ABANDONED and counted, the other boards and every tab as they were,
the panel's grants REVOKED, its boards out of the queue, and a claim on an attached board of it emptied. -/
abbrev Sys2Proof.Says.PanelAbortAbandonsTheAttachedBoards : Prop :=
  ∀ (s : State) (p : Port) (sel : Selector), s.Reaches p 23 →
    let i := Instr.panelAbort p sel
    (s.selected sel = none → Refuses i s p 23 .outOfRange)
    ∧ ∀ (k : Fin 4) (panel : Panel), s.selected sel = some k → s.panels.records[k] = some panel →
      (panel.state.isActive = false → Refuses i s p 23 .wrongState)
      ∧ (panel.state.isActive = true → ∃ t q,
          Answers i s t p 23 .accepted [BitVec.ofNat 8 q.state.code]
          ∧ t.panels = { s.panels with records := s.panels.records.set k (some q) }
          ∧ q.boards = (panel.boards.map fun b => if b.state.attached then { b with state := .abandoned } else b)
          ∧ q.state = (if q.boards.all (fun b => b.state.terminal) then .finished else .draining)
          ∧ q.abandoned = panel.abandoned + (panel.boards.filter fun b => b.state.attached).length
          ∧ q.recipe = panel.recipe ∧ q.serial = panel.serial ∧ q.stowed = panel.stowed ∧ q.rejected = panel.rejected
          ∧ q.lost = panel.lost
          ∧ t.scheduler = { s.scheduler with window := s.scheduler.window.map fun g =>
              if g.serial = panel.serial then { g with live := false } else g }
          ∧ ((∃ g ∈ s.scheduler.window, g.serial = panel.serial ∧ g.live = true) →
              t.isPending .router .grantRevoked = true)
          ∧ t.gripper.queue = s.gripper.queue.filter (·.serial != panel.serial)
          ∧ (∀ l, s.claimed = some l → l.record = k → l.board.state.attached = true →
              t.gripper.claim = none ∧ t.isPending .pick .claimEnded = true)
          ∧ ((∀ l, s.claimed = some l → ¬ (l.record = k ∧ l.board.state.attached = true)) →
              t.gripper.claim = s.gripper.claim)
          ∧ (q.state = .finished → t.isPending .cell .panelDone = true)
          ∧ { t with panels := s.panels, scheduler := s.scheduler, gripper := s.gripper, spindle := s.spindle,
                     store := s.store, ports := s.ports } = s)

/-- PANEL_RESULT: the record of a FINISHED panel with no grant in the window becomes FREE and leaves the start order; the
answer carries the serial and the four counts. -/
abbrev Sys2Proof.Says.PanelResultFreesTheRecord : Prop :=
  ∀ (s : State) (p : Port) (serial : Word32), s.Reaches p 24 →
    let i := Instr.panelResult p serial
    (s.recordOfSerial serial.toNat = none → Refuses i s p 24 .outOfRange)
    ∧ ∀ (k : Fin 4) (panel : Panel), s.recordOfSerial serial.toNat = some k → s.panels.records[k] = some panel →
      (panel.state ≠ .finished ∨ (∃ g ∈ s.scheduler.window, g.serial = serial.toNat) → Refuses i s p 24 .wrongState)
      ∧ (panel.state = .finished → (∀ g ∈ s.scheduler.window, g.serial ≠ serial.toNat) → ∃ t,
          Answers i s t p 24 .accepted
            (bytes32 serial ++ n32 panel.stowed ++ n32 panel.rejected ++ n32 panel.lost ++ n32 panel.abandoned)
          ∧ t.panels = { records := s.panels.records.set k none
                         startOrder := s.panels.startOrder.filter (· != k) }
          ∧ t.gripper.claim = s.gripper.claim ∧ t.gripper.queue = s.gripper.queue ∧ t.store = s.storeBegin.store
          ∧ { t with panels := s.panels, gripper := s.gripper, store := s.store, ports := s.ports } = s)

/-- PANEL_ABORT and PANEL_RESULT. -/
def Obligations.PanelsEndByAbortAndResult : Prop :=
  Says.PanelAbortAbandonsTheAttachedBoards ∧ Says.PanelResultFreesTheRecord

/-- The checks both forms of RESOLVE_TAB share, and RESOLVE_TAB with UNCUT: the tab is UNCUT, the review reason is
re-evaluated, and no other field of the board and no other board changes. -/
abbrev Sys2Proof.Says.ResolveTabUncutReturnsTheTab : Prop :=
  ∀ (s : State) (p : Port) (sel : Selector) (b t : Byte), s.Reaches p 25 →
    (∀ i ∈ [Instr.resolveTabUncut p sel b t, Instr.resolveTabCut p sel b t],
      (s.locateSelected sel b.toNat = none → Refuses i s p 25 .outOfRange)
      ∧ ∀ l, s.locateSelected sel b.toNat = some l →
        (nth1 l.board.tabs t.toNat = none → Refuses i s p 25 .outOfRange)
        ∧ (∀ x, nth1 l.board.tabs t.toNat = some x → x ≠ .suspect → Refuses i s p 25 .wrongState))
    ∧ ∀ l, s.locateSelected sel b.toNat = some l → nth1 l.board.tabs t.toNat = some .suspect → ∃ u,
        Answers (.resolveTabUncut p sel b t) s u p 25 .accepted []
        ∧ (let tabs := l.board.tabs.set (t.toNat - 1) .uncut
           u.boardAt l.record l.index = some { l.board with
             tabs := tabs, review := s.reviewOf { l with board := { l.board with tabs := tabs } } })
        ∧ BoardsElsewhere s u l.record l.index ∧ u.scheduler = s.scheduler ∧ u.bit = s.bit
        ∧ u.gripper.claim = s.gripper.claim ∧ u.gripper.queue = s.gripper.queue ∧ u.magazine = s.magazine
        ∧ u.cell = s.cell ∧ u.recipes = s.recipes

/-- The state a board goes to when one of its tabs is cut (R21, R36 to R38). -/
abbrev Sys2Proof.Machine.Board.afterCut (board : Board) (hold : Bool) : BoardState :=
  if hold then
    if board.holdUncut - 1 = 0 then
      match board.state with
      | .held => .loose
      | .hanging | .claimed => .lost
      | .cutting | .loose | .bound | .inserting | .verifying | .stowed | .rejected | .lost | .abandoned => board.state
    else board.state
  else if board.freeUncut - 1 = 0 ∧ board.state = .cutting then .hanging
  else board.state

/-- The board record when tab t has been cut. -/
abbrev Sys2Proof.Machine.Board.withCut (board : Board) (hold : Bool) (t : Nat) (review : Option ReviewReason) : Board :=
  { board with state := board.afterCut hold
               freeUncut := if hold then board.freeUncut else board.freeUncut - 1
               holdUncut := if hold then board.holdUncut - 1 else board.holdUncut
               tabs := board.tabs.set (t - 1) .cut, review := review }

/-- What a cut tab does beyond its board record: a board that hangs joins the queue's tail, a dropped one leaves the
queue or the claim and raises BOARD_DROPPED. -/
abbrev Sys2Proof.Machine.CutFollows (s t : State) (l : Located) (hold : Bool) : Prop :=
  (l.board.afterCut hold = l.board.state ∨ l.board.state = .held →
      t.gripper.queue = s.gripper.queue ∧ t.gripper.claim = s.gripper.claim)
  ∧ (l.board.state = .cutting → l.board.afterCut hold = .hanging →
      t.gripper.queue = s.gripper.queue ++ [l.id] ∧ t.gripper.claim = s.gripper.claim
        ∧ t.isPending .pick .boardHanging = true)
  ∧ (l.board.state = .hanging → l.board.afterCut hold = .lost →
      t.gripper.queue = s.gripper.queue.filter (· != l.id) ∧ t.gripper.claim = s.gripper.claim)
  ∧ (l.board.state = .claimed → l.board.afterCut hold = .lost →
      t.gripper.queue = s.gripper.queue ∧ t.gripper.claim = none ∧ t.isPending .pick .claimEnded = true)
  ∧ (l.board.afterCut hold = .lost → l.board.state ≠ .lost → (s.fault .boardDropped).enabled = true →
      (t.fault .boardDropped).count = min 255 ((s.fault .boardDropped).count + 1)
        ∧ t.isPending .cell .faultRaised = true)

/-- RESOLVE_TAB with CUT: the tab is CUT, the count of its role goes down, and the board moves by its state; no wear is
added and no grant is touched but by a park that a drop causes. -/
abbrev Sys2Proof.Says.ResolveTabCutCutsTheTab : Prop :=
  ∀ (s : State) (p : Port) (sel : Selector) (b t : Byte) (l : Located), s.Reaches p 25 →
    s.locateSelected sel b.toNat = some l → nth1 l.board.tabs t.toNat = some .suspect →
    let hold := s.isHold l.panel l.index t.toNat
    ∃ u review, Answers (.resolveTabCut p sel b t) s u p 25 .accepted
        [BitVec.ofNat 8 (l.board.afterCut hold).code]
      ∧ u.boardAt l.record l.index = some (l.board.withCut hold t.toNat review)
      ∧ (review = some .suspectTab ↔ TabState.suspect ∈ l.board.tabs.set (t.toNat - 1) .cut)
      ∧ BoardsElsewhere s u l.record l.index ∧ CutFollows s u l hold ∧ u.bit = s.bit
      ∧ u.scheduler.window.map (·.tag) = s.scheduler.window.map (·.tag) ∧ u.recipes = s.recipes
      ∧ u.magazine = s.magazine

/-- RESOLVE_TAB with either finding. -/
def Obligations.ResolveTabSettlesASuspectTab : Prop :=
  Says.ResolveTabUncutReturnsTheTab ∧ Says.ResolveTabCutCutsTheTab

/-- DIVERT: the flag is set; a board BOUND to a slot loses its reservation and its destination, goes to LOOSE, and the
robot is told; elsewhere only the flag changes. A board whose flag is set already is answered and left. -/
def Obligations.DivertSetsTheFlag : Prop :=
  ∀ (s : State) (p : Port) (sel : Selector) (b : Byte), s.Reaches p 26 →
    let i := Instr.divert p sel b
    (s.locateSelected sel b.toNat = none → Refuses i s p 26 .outOfRange)
    ∧ ∀ l, s.locateSelected sel b.toNat = some l →
      (l.board.state.terminal = true → Refuses i s p 26 .wrongState)
      ∧ (l.board.state.terminal = false → l.board.divert = true →
          Answers i s s p 26 .accepted [BitVec.ofNat 8 l.board.state.code])
      ∧ (l.board.state.terminal = false → l.board.divert = false →
          (∀ k, l.board.state = .bound → l.board.destination = some (.slot k) → ∃ t,
              Answers i s t p 26 .accepted [4]
              ∧ t.boardAt l.record l.index = some { l.board with state := .loose, destination := none, divert := true }
              ∧ BoardsElsewhere s t l.record l.index ∧ t.isPending .pick .destinationReady = true
              ∧ (t.magazine.session.map (·.slots)) = s.magazine.session.map (fun m => m.slots.map fun x =>
                  if x.state = .reserved l.id then { x with state := .empty } else x)
              ∧ t.gripper.claim = s.gripper.claim ∧ t.gripper.queue = s.gripper.queue ∧ t.scheduler = s.scheduler)
          ∧ (l.board.state ≠ .bound ∨ l.board.destination = some .reject ∨ l.board.destination = none → ∃ t,
              Answers i s t p 26 .accepted [BitVec.ofNat 8 l.board.state.code]
              ∧ t.boardAt l.record l.index = some { l.board with divert := true }
              ∧ BoardsElsewhere s t l.record l.index ∧ t.magazine = s.magazine
              ∧ t.gripper.claim = s.gripper.claim ∧ t.gripper.queue = s.gripper.queue ∧ t.scheduler = s.scheduler))

/-! ### Cutting -/

/-- The tab chosen for a grant is UNCUT, on an unflagged board of the served panel: a hold tab of its HELD board, or a
free tab of a CUTTING board that is not its last uncut free tab unless the hang-committed count is below the limit. -/
abbrev Sys2Proof.Says.ChosenTabIsEligible : Prop :=
  ∀ (s : State) (c : Choice), s.chooseTab = some c →
    s.servedPanel = some c.record ∧ s.panels.records[c.record] = some c.panel ∧ c.panel.state.isActive = true
      ∧ ∃ board, nth1 c.panel.boards c.board = some board ∧ board.review = none
        ∧ nth1 board.tabs c.tab = some .uncut ∧ s.isHold c.panel c.board c.tab = c.hold
        ∧ (c.hold = true → board.state = .held)
        ∧ (c.hold = false → board.state = .cutting
            ∧ ((∃ t, t ≠ c.tab ∧ nth1 board.tabs t = some .uncut ∧ s.isHold c.panel c.board t = false)
                ∨ s.hangCommitted < s.scheduler.hangLimit))

/-- Tab t of board b may be chosen in the hold-tab pass over a panel (R28). -/
abbrev Sys2Proof.Machine.State.HoldEligible (s : State) (panel : Panel) (b t : Nat) : Prop :=
  ∃ board, nth1 panel.boards b = some board ∧ board.state = .held ∧ board.review = none
    ∧ nth1 board.tabs t = some .uncut ∧ s.isHold panel b t = true

/-- Tab t of board b, of this rank, may be chosen in the free-tab pass over a panel (R29). -/
abbrev Sys2Proof.Machine.State.FreeEligible (s : State) (panel : Panel) (rank b t : Nat) : Prop :=
  ∃ board, nth1 panel.boards b = some board ∧ board.rank = rank ∧ board.state = .cutting ∧ board.review = none
    ∧ nth1 board.tabs t = some .uncut ∧ s.isHold panel b t = false
    ∧ ((∃ u, u ≠ t ∧ nth1 board.tabs u = some .uncut ∧ s.isHold panel b u = false)
        ∨ s.hangCommitted < s.scheduler.hangLimit)

/-- The order of the choice: the hold-tab pass comes first and takes the first hold tab of the HELD board; the free-tab
pass takes the first eligible free tab by rank, then board index, then tab index; and nothing is chosen when neither pass
finds a tab or no panel is served. -/
abbrev Sys2Proof.Says.TheFirstEligibleTabIsChosen : Prop :=
  ∀ s : State, ClaimSafe s →
    (s.servedPanel = none → s.chooseTab = none)
    ∧ ∀ (i : Fin 4) (panel : Panel), s.servedPanel = some i → s.panels.records[i] = some panel →
      (∀ b t, s.HoldEligible panel b t → (∀ u, s.HoldEligible panel b u → t ≤ u) →
        s.chooseTab = some { record := i, panel := panel, board := b, tab := t, hold := true })
      ∧ ((∀ b t, ¬ s.HoldEligible panel b t) →
        (∀ r b t, s.FreeEligible panel r b t →
          (∀ q c u, s.FreeEligible panel q c u → r < q ∨ (r = q ∧ (b < c ∨ (b = c ∧ t ≤ u)))) →
          s.chooseTab = some { record := i, panel := panel, board := b, tab := t, hold := false })
        ∧ ((∀ r b t, ¬ s.FreeEligible panel r b t) → s.chooseTab = none))

/-- NEXT_CUT: the four tests in their order and the empty choice answer WAIT; a chosen tab becomes GRANTED and its board is
re-examined for review, with every other field of the panel table as it was, and the grant made from its definition, its
panel's recipe, the bit and the spindle joins the window's tail. -/
abbrev Sys2Proof.Says.NextCutGrantsTheChosenTab : Prop :=
  ∀ (s : State) (p : Port), s.Reaches p 48 → PanelsSafe s →
    let i := Instr.nextCut p
    (s.cell.state ≠ .run → Waits i s p 48 .notRun)
    ∧ (s.cell.state = .run →
      (s.spindle.state ≠ .atSpeed → Waits i s p 48 .spindle)
      ∧ (s.spindle.state = .atSpeed →
        (s.bit.worn = true → Waits i s p 48 .bitWorn)
        ∧ (s.bit.worn = false →
          (2 ≤ s.scheduler.window.length → Waits i s p 48 .windowFull)
          ∧ (s.scheduler.window.length < 2 →
            (s.chooseTab = none → Waits i s p 48 .nothingEligible)
            ∧ ∀ c d r board, s.chooseTab = some c → s.tabDef c.panel c.board c.tab = some d →
                s.recipeOf c.panel = some r → nth1 c.panel.boards c.board = some board → ∃ t,
              let g : Grant :=
                { tag := s.scheduler.tag, serial := c.panel.serial, fixture := c.panel.state.fixture, board := c.board,
                  tab := c.tab, hold := c.hold, x := d.x, y := d.y, heading := d.heading, cutLength := d.cutLength,
                  depth := s.bit.record.depth, feed := s.bit.grantFeed r.header.feed, rpm := s.spindle.commanded,
                  live := true }
              Answers i s t p 48 .accepted g.bytes
              ∧ t.scheduler = { s.scheduler with
                  window := s.scheduler.window ++ [g]
                  tag := if s.scheduler.tag = 255 then 1 else s.scheduler.tag + 1
                  expiry := if s.scheduler.window = [] then some { ms := r.header.cutLimit, us := 0 }
                            else s.scheduler.expiry }
              ∧ (let tabs := board.tabs.set (c.tab - 1) .granted
                 let l : Located :=
                   { record := c.record, panel := c.panel, index := c.board, board := { board with tabs := tabs } }
                 let boards := c.panel.boards.set (c.board - 1) { board with tabs := tabs, review := s.reviewOf l }
                 t.panels = { s.panels with
                   records := s.panels.records.set c.record (some { c.panel with boards := boards }) })
              ∧ t.store = s.storeBegin.store
              ∧ { t with panels := s.panels, scheduler := s.scheduler, store := s.store, ports := s.ports } = s))))

/-- The choice of a tab, and the grant that NEXT_CUT makes of it. -/
def Obligations.ChosenTabIsEligible : Prop :=
  Says.ChosenTabIsEligible ∧ Says.TheFirstEligibleTabIsChosen ∧ Says.NextCutGrantsTheChosenTab

/-- The served panel is the oldest ACTIVE record with a tab UNCUT or GRANTED; when it changes, its recipe's rpm is handed
to the spindle loop, and with no served panel the rpm last handed over stays. -/
abbrev Sys2Proof.Says.HandOverRetargetsTheLoop : Prop :=
  ∀ b s : State,
    (∀ i, s.servedPanel = some i →
      ∃ older newer panel, s.panels.startOrder = older ++ i :: newer ∧ s.panels.records[i] = some panel
        ∧ panel.servable = true
        ∧ ∀ j ∈ older, ∀ q, s.panels.records[j] = some q → q.servable = false)
    ∧ (b.servedPanel = s.servedPanel → b.handOver s = s)
    ∧ (s.servedPanel = none → b.handOver s = s)
    ∧ (∀ i panel r, b.servedPanel ≠ s.servedPanel → s.servedPanel = some i → s.panels.records[i] = some panel →
        s.recipeOf panel = some r →
        (b.handOver s).spindle.recipeRpm = r.header.rpm ∧ (b.handOver s).spindle.override = s.spindle.override
          ∧ (b.handOver s).spindle.duty = s.spindle.duty
          ∧ (s.spindle.state = .atSpeed → (b.handOver s).spindle.state =
              if (b.handOver s).spindle.commanded = s.spindle.commanded then .atSpeed else .ramping)
          ∧ (s.spindle.state ≠ .atSpeed → (b.handOver s).spindle.state = s.spindle.state)
          ∧ { b.handOver s with spindle := s.spindle } = s)

/-- A command, the resets apart, after which another panel is served leaves the spindle loop with the rpm of that panel's
recipe; after any other the recipe rpm is as it was. A commanded rpm that has changed leaves the loop out of AT_SPEED. -/
abbrev Sys2Proof.Says.CommandsHandOverTheServedRpm : Prop :=
  ∀ (i : Instr) (s t : State), exec i s = .next t → i.resets = false →
    (∀ k panel r, s.servedPanel ≠ t.servedPanel → t.servedPanel = some k → t.panels.records[k] = some panel →
      t.recipeOf panel = some r → t.spindle.recipeRpm = r.header.rpm)
    ∧ (t.servedPanel = none ∨ s.servedPanel = t.servedPanel → t.spindle.recipeRpm = s.spindle.recipeRpm)
    ∧ (t.spindle.commanded ≠ s.spindle.commanded → t.spindle.state ≠ .atSpeed)

/-- The served panel, and the rpm its recipe gives the spindle loop. -/
def Obligations.NewlyServedPanelHandsOverItsRpm : Prop :=
  Says.HandOverRetargetsTheLoop ∧ Says.CommandsHandOverTheServedRpm

/-- A report whose tag names the newer grant is refused OUT_OF_ORDER, and one that names none LATE. -/
abbrev Sys2Proof.Says.ReportsAreCheckedAgainstTheWindow : Prop :=
  ∀ (s : State) (p : Port) (tag len : Byte), ∀ x ∈ [(Instr.cutDone p tag, (49 : Byte)), (.cutAbort p tag len, 50)],
    s.Reaches p x.2 →
    ((∀ g ∈ s.scheduler.window, g.tag ≠ tag.toNat) → Refuses x.1 s p x.2 .late)
    ∧ (∀ g rest, s.scheduler.window = g :: rest → g.tag ≠ tag.toNat → (∃ n ∈ rest, n.tag = tag.toNat) →
        Refuses x.1 s p x.2 .outOfOrder)

/-- The oldest grant leaves the window, and the next one becomes oldest with its own time limit; a park that the same
change causes may revoke it. -/
abbrev Sys2Proof.Machine.OldestLeaves (s t : State) : Prop :=
  t.scheduler.window.map (fun g => { g with live := false }) =
      s.scheduler.window.tail.map (fun g => { g with live := false })
    ∧ t.scheduler.expiry = s.scheduler.window.tail.head?.bind (fun g => (s.cutLimit g).map fun ms => { ms := ms, us := 0 })
    ∧ t.scheduler.tag = s.scheduler.tag ∧ t.scheduler.hangLimit = s.scheduler.hangLimit

/-- The bit is charged a length, saturating, and is worn from Weol on; the change that makes it worn raises BIT_WORN. -/
abbrev Sys2Proof.Machine.BitCharged (s t : State) (length : Nat) : Prop :=
  let w := min 4294967295 (s.bit.record.wear + length)
  t.bit = { s.bit with record := { s.bit.record with wear := w }
                       worn := s.bit.worn || decide (s.bit.record.params.endOfLife ≤ w) }
    ∧ (s.bit.worn = false → s.bit.record.params.endOfLife ≤ w → (t.fault .bitWorn).active = true)

/-- CUT_DONE for the oldest grant: the grant leaves, its planned length is charged, its tab is CUT and its board moves;
the tab and board of an ABANDONED board stay as they are. -/
def Obligations.CutDoneAccountsTheCut : Prop :=
  ∀ (s : State) (p : Port) (tag : Byte) (g : Grant) (rest : List Grant), s.Reaches p 49 →
    s.scheduler.window = g :: rest → g.tag = tag.toNat →
    ∃ t body, Answers (.cutDone p tag) s t p 49 .accepted body ∧ OldestLeaves s t ∧ BitCharged s t g.cutLength
      ∧ t.recipes = s.recipes ∧ t.elevator = s.elevator ∧ t.insertion = s.insertion
      ∧ (∀ l, s.locateId { serial := g.serial, board := g.board } = some l → ∀ x, nth1 l.board.tabs g.tab = some x →
          (l.board.state = .abandoned →
            t.panels = s.panels ∧ body = [BitVec.ofNat 8 x.code, 11]
              ∧ t.gripper.queue = s.gripper.queue ∧ t.gripper.claim = s.gripper.claim)
          ∧ (l.board.state ≠ .abandoned →
            let hold := s.isHold l.panel l.index g.tab
            body = [2, BitVec.ofNat 8 (l.board.afterCut hold).code]
              ∧ (∃ review, t.boardAt l.record l.index = some (l.board.withCut hold g.tab review)
                  ∧ (review = some .suspectTab ↔ TabState.suspect ∈ l.board.tabs.set (g.tab - 1) .cut))
              ∧ BoardsElsewhere s t l.record l.index ∧ CutFollows s t l hold))

/-- CUT_ABORT for the oldest grant: the reported length, at most the planned one, is charged and answered, and the tab
returns to UNCUT unless its board is ABANDONED; no count and no board state changes. -/
abbrev Sys2Proof.Says.CutAbortReturnsTheTab : Prop :=
  ∀ (s : State) (p : Port) (tag len : Byte) (g : Grant) (rest : List Grant), s.Reaches p 50 →
    s.scheduler.window = g :: rest → g.tag = tag.toNat →
    let n := min len.toNat g.cutLength
    ∃ t body, Answers (.cutAbort p tag len) s t p 50 .accepted (BitVec.ofNat 8 n :: body)
      ∧ OldestLeaves s t ∧ BitCharged s t n ∧ t.recipes = s.recipes ∧ t.elevator = s.elevator
      ∧ t.insertion = s.insertion ∧ t.gripper.queue = s.gripper.queue ∧ t.gripper.claim = s.gripper.claim
      ∧ (∀ l, s.locateId { serial := g.serial, board := g.board } = some l → ∀ x, nth1 l.board.tabs g.tab = some x →
          (l.board.state = .abandoned → t.panels = s.panels ∧ body = [BitVec.ofNat 8 x.code, 11])
          ∧ (l.board.state ≠ .abandoned →
            body = [0, BitVec.ofNat 8 l.board.state.code]
              ∧ (∃ review, t.boardAt l.record l.index =
                  some { l.board with tabs := l.board.tabs.set (g.tab - 1) .uncut, review := review })
              ∧ BoardsElsewhere s t l.record l.index))

/-- The checks of both reports, and CUT_ABORT. -/
def Obligations.ReportsAndCutAbort : Prop :=
  Says.ReportsAreCheckedAgainstTheWindow ∧ Says.CutAbortReturnsTheTab

/-- The expiry of the oldest grant, whatever its status and its board's state: the grant leaves, its tab is SUSPECT, the
board is flagged with its state and counts as they were, REVIEW_NEEDED is posted and GRANT_EXPIRED raised. -/
def Obligations.GrantExpiryMakesTheTabSuspect : Prop :=
  ∀ s : State, s.starting = false →
    (s.scheduler.window = [] ∨ s.scheduler.expiry = none → exec .grantExpiry s = .next s.storeBegin)
    ∧ ∀ g rest x, s.scheduler.window = g :: rest → s.scheduler.expiry = some x → ∃ t,
      exec .grantExpiry s = .next t ∧ OldestLeaves s t ∧ t.isPending .cell .reviewNeeded = true
      ∧ ((s.fault .grantExpired).enabled = true →
          (t.fault .grantExpired).count = min 255 ((s.fault .grantExpired).count + 1)
            ∧ t.isPending .cell .faultRaised = true)
      ∧ t.bit = s.bit ∧ t.recipes = s.recipes ∧ t.elevator = s.elevator ∧ t.insertion = s.insertion
      ∧ t.gripper.queue = s.gripper.queue ∧ t.gripper.claim = s.gripper.claim
      ∧ (∀ l y, s.locateId { serial := g.serial, board := g.board } = some l → nth1 l.board.tabs g.tab = some y →
          t.boardAt l.record l.index = some { l.board with
            tabs := l.board.tabs.set (g.tab - 1) .suspect, review := some .suspectTab }
          ∧ BoardsElsewhere s t l.record l.index)

/-! ### Claims and the gripper -/

/-- CLAIM_NEXT chooses the first unflagged board of the queue that belongs to the served panel, and without one the first
unflagged board of any panel. -/
abbrev Sys2Proof.Says.ClaimNextPrefersTheServedPanel : Prop :=
  ∀ s : State,
    (∀ ahead id behind l, s.gripper.queue = ahead ++ id :: behind → s.locateId id = some l → l.board.review = none →
      s.servedPanel = some l.record →
      (∀ x ∈ ahead, ∀ m, s.locateId x = some m → m.board.review ≠ none ∨ s.servedPanel ≠ some m.record) →
      s.nextClaim = some l)
    ∧ (∀ ahead id behind l, s.gripper.queue = ahead ++ id :: behind → s.locateId id = some l → l.board.review = none →
      (∀ x ∈ s.gripper.queue, ∀ m, s.locateId x = some m → m.board.review ≠ none ∨ s.servedPanel ≠ some m.record) →
      (∀ x ∈ ahead, ∀ m, s.locateId x = some m → m.board.review ≠ none) →
      s.nextClaim = some l)
    ∧ ((∀ x ∈ s.gripper.queue, ∀ m, s.locateId x = some m → m.board.review ≠ none) → s.nextClaim = none)

/-- A board is claimed: it is CLAIMED, leaves the queue, and the claim names it. -/
abbrev Sys2Proof.Machine.Claimed (s t : State) (l : Located) : Prop :=
  t.boardAt l.record l.index = some { l.board with state := .claimed } ∧ BoardsElsewhere s t l.record l.index
    ∧ t.gripper = { s.gripper with claim := some l.id, queue := s.gripper.queue.filter (· != l.id) }
    ∧ t.scheduler = s.scheduler ∧ t.magazine = s.magazine ∧ t.cell = s.cell ∧ t.insertion = s.insertion
    ∧ t.recipes = s.recipes ∧ t.bit = s.bit

/-- CLAIM_NEXT and CLAIM: what each refuses, what makes CLAIM_NEXT wait, and the claim. -/
abbrev Sys2Proof.Says.ClaimRequestsTakeTheirBoard : Prop :=
  ∀ (s : State) (p : Port),
    (s.Reaches p 56 →
      (s.gripper.claim.isSome = true → Refuses (.claimNext p) s p 56 .busy)
      ∧ (s.gripper.claim = none →
        (s.nextClaim = none → Waits (.claimNext p) s p 56 .nothingEligible)
        ∧ ∀ l, s.nextClaim = some l → ∃ t, Answers (.claimNext p) s t p 56 .accepted (s.claimBody l) ∧ Claimed s t l))
    ∧ (s.Reaches p 57 → ∀ (serial : Word32) (b : Byte),
      let i := Instr.claim p serial b
      let named := s.locateId { serial := serial.toNat, board := b.toNat }
      (named = none → Refuses i s p 57 .outOfRange)
      ∧ ∀ l, named = some l →
        (s.gripper.claim.isSome = true → Refuses i s p 57 .busy)
        ∧ (s.gripper.claim = none →
          (l.board.state ≠ .hanging ∨ l.board.review ≠ none → Refuses i s p 57 .wrongState)
          ∧ (l.board.state = .hanging → l.board.review = none → ∃ t,
              Answers i s t p 57 .accepted (s.claimBody l) ∧ Claimed s t l)))

/-- CLAIM_NEXT and CLAIM. -/
def Obligations.ClaimsTakeAHangingBoard : Prop :=
  Says.ClaimNextPrefersTheServedPanel ∧ Says.ClaimRequestsTakeTheirBoard

/-- The checks that GRIPPED, RELEASE, DESTINATION, REJECT_PLACED, INSERT_BEGIN and INSERT_END share: the board exists,
and the claim names it. -/
abbrev Sys2Proof.Says.PickRequestsNameTheClaimedBoard : Prop :=
  ∀ (s : State) (p : Port) (serial : Word32) (b : Byte),
    ∀ x ∈ [(Instr.gripped p serial b, (58 : Byte)), (.release p serial b, 59), (.destination p serial b, 60),
        (.rejectPlaced p serial b, 61), (.insertBegin p serial b, 62), (.insertEndAborted p serial b, 63),
        (.insertEndSeated p serial b, 63)], s.Reaches p x.2 →
    let id : BoardId := { serial := serial.toNat, board := b.toNat }
    (s.locateId id = none → Refuses x.1 s p x.2 .outOfRange)
    ∧ (∀ l, s.locateId id = some l → s.gripper.claim ≠ some id → Refuses x.1 s p x.2 .wrongState)

/-- GRIPPED: a CLAIMED board becomes HELD; a claimed board in any other state is refused. RELEASE: a CLAIMED or HELD
board hangs again at the head of the queue, the claim is empty, and the grants for its hold tabs are revoked. -/
abbrev Sys2Proof.Says.GrippedAndRelease : Prop :=
  ∀ (s : State) (p : Port) (serial : Word32) (b : Byte) (l : Located),
    s.locateId { serial := serial.toNat, board := b.toNat } = some l → s.gripper.claim = some l.id →
    (s.Reaches p 58 →
      (l.board.state ≠ .claimed → Refuses (.gripped p serial b) s p 58 .wrongState)
      ∧ (l.board.state = .claimed → ∃ t, Answers (.gripped p serial b) s t p 58 .accepted []
          ∧ t.boardAt l.record l.index = some { l.board with state := .held } ∧ BoardsElsewhere s t l.record l.index
          ∧ t.scheduler = s.scheduler ∧ t.magazine = s.magazine ∧ t.cell = s.cell ∧ t.bit = s.bit
          ∧ t.gripper = s.gripper))
    ∧ (s.Reaches p 59 →
      (l.board.state ≠ .claimed → l.board.state ≠ .held → Refuses (.release p serial b) s p 59 .wrongState)
      ∧ (l.board.state = .claimed ∨ l.board.state = .held → ∃ t, Answers (.release p serial b) s t p 59 .accepted []
          ∧ t.boardAt l.record l.index = some { l.board with state := .hanging }
          ∧ BoardsElsewhere s t l.record l.index
          ∧ t.gripper = { claim := none, queue := l.id :: s.gripper.queue, wait := none }
          ∧ t.scheduler = { s.scheduler with window := s.scheduler.window.map fun g =>
              if g.hold = true ∧ g.serial = l.id.serial ∧ g.board = l.id.board then { g with live := false } else g }
          ∧ ((∃ g ∈ s.scheduler.window, g.hold = true ∧ g.serial = l.id.serial ∧ g.board = l.id.board ∧ g.live = true) →
              t.isPending .router .grantRevoked = true)
          ∧ t.magazine = s.magazine ∧ t.cell = s.cell ∧ t.bit = s.bit))

/-- DESTINATION: a LOOSE X-out or diverted board is bound to the bin while it has room, another LOOSE board to the lowest
run of its height class, a BOUND board is answered what it holds, and any other is refused; without room the answer is
WAIT and the reason is kept. MODEL'S CHOICES: a REJECT destination is answered as one byte 0 (log entry 18); a board
already BOUND to slot k is answered k and its height class again (log entry 41). -/
abbrev Sys2Proof.Says.DestinationAnswers : Prop :=
  ∀ (s : State) (p : Port) (serial : Word32) (b : Byte) (l : Located), s.Reaches p 60 →
    s.locateId { serial := serial.toNat, board := b.toNat } = some l → s.gripper.claim = some l.id →
    let i := Instr.destination p serial b
    let bin := l.board.xout || l.board.divert
    (l.board.state ≠ .loose → l.board.state ≠ .bound → Refuses i s p 60 .wrongState)
    ∧ (l.board.state = .bound → l.board.destination = some .reject → Answers i s s p 60 .accepted [0])
    ∧ (∀ k, l.board.state = .bound → l.board.destination = some (.slot k) →
        Answers i s s p 60 .accepted [BitVec.ofNat 8 k, BitVec.ofNat 8 l.board.height])
    ∧ (l.board.state = .loose → bin = true →
        (s.magazine.binCount < s.magazine.binCapacity → ∃ t, Answers i s t p 60 .accepted [0]
          ∧ t.boardAt l.record l.index = some { l.board with state := .bound, destination := some .reject }
          ∧ BoardsElsewhere s t l.record l.index ∧ t.gripper = { s.gripper with wait := none }
          ∧ t.magazine = s.magazine ∧ t.scheduler = s.scheduler ∧ t.cell = s.cell)
        ∧ (s.magazine.binCapacity ≤ s.magazine.binCount → ∃ t, Answers i s t p 60 (.wait .binFull) []
          ∧ t.gripper = { s.gripper with wait := some .binFull } ∧ t.panels = s.panels ∧ t.magazine = s.magazine
          ∧ t.scheduler = s.scheduler ∧ t.cell = s.cell))
    ∧ (l.board.state = .loose → bin = false →
        (∀ k, s.runFor l.board.height = some k → ∃ t,
          Answers i s t p 60 .accepted [BitVec.ofNat 8 k, BitVec.ofNat 8 l.board.height]
          ∧ t.boardAt l.record l.index = some { l.board with state := .bound, destination := some (.slot k) }
          ∧ BoardsElsewhere s t l.record l.index ∧ t.gripper = { s.gripper with wait := none }
          ∧ (t.magazine.session.map (·.slots)) =
              s.magazine.session.map (fun m => (m.setRun k l.board.height (.reserved l.id)).slots)
          ∧ t.scheduler = s.scheduler ∧ t.cell = s.cell)
        ∧ (s.runFor l.board.height = none → ∃ t, Answers i s t p 60 (.wait .noRoom) []
          ∧ t.gripper = { s.gripper with wait := some .noRoom } ∧ t.panels = s.panels
          ∧ (∀ m, s.magazine.session = some m → t.magazine.session =
              some { m with full := some (if m.full = some 1 then 1 else l.board.height) })
          ∧ (s.magazine.session = none → t.magazine = s.magazine)
          ∧ t.isPending .magazine .unloadWanted = true ∧ t.scheduler = s.scheduler ∧ t.cell = s.cell))

/-- The run an allocation is given is the lowest run of EMPTY slots of its height; there is none without a magazine or in
a condemned one. -/
abbrev Sys2Proof.Says.AllocationTakesTheLowestRun : Prop :=
  ∀ (s : State) (h k : Nat), 1 ≤ h →
    (s.magazine.session = none → s.runFor h = none)
    ∧ ∀ m, s.magazine.session = some m → m.slots.length = m.type.slotCount →
      let free := fun j => ∀ d, d < h → ∃ x, nth1 m.slots (j + d) = some x ∧ x.state = .empty
      (m.condemned = true → s.runFor h = none)
      ∧ (m.condemned = false →
          (s.runFor h = some k ↔ 1 ≤ k ∧ free k ∧ ∀ j, 1 ≤ j → j < k → ¬ free j)
          ∧ (s.runFor h = none ↔ ∀ j, 1 ≤ j → ¬ free j))

/-- DESTINATION, and the run of slots it allocates (the model's choices in it: log entries 18 and 41). -/
def Obligations.DestinationBindsTheLooseBoard : Prop :=
  Says.DestinationAnswers ∧ Says.AllocationTakesTheLowestRun

/-- REJECT_PLACED: a board BOUND to REJECT is REJECTED, the bin count rises, the claim is empty, and a count that reaches
the capacity makes REJECT_FULL active; any other claimed board is refused. -/
abbrev Sys2Proof.Says.RejectPlacedFillsTheBin : Prop :=
  ∀ (s : State) (p : Port) (serial : Word32) (b : Byte) (l : Located), s.Reaches p 61 →
    s.locateId { serial := serial.toNat, board := b.toNat } = some l → s.gripper.claim = some l.id →
    let i := Instr.rejectPlaced p serial b
    (¬ (l.board.state = .bound ∧ l.board.destination = some .reject) → Refuses i s p 61 .wrongState)
    ∧ (l.board.state = .bound → l.board.destination = some .reject → ∃ t, Answers i s t p 61 .accepted []
        ∧ t.boardAt l.record l.index = some { l.board with state := .rejected } ∧ BoardsElsewhere s t l.record l.index
        ∧ t.magazine = { s.magazine with binCount := s.magazine.binCount + 1 }
        ∧ t.gripper = { s.gripper with claim := none, wait := none }
        ∧ (s.magazine.binCount + 1 = s.magazine.binCapacity → (t.fault .rejectFull).active = true)
        ∧ (s.magazine.binCount + 1 ≠ s.magazine.binCapacity → t.cell = s.cell ∧ t.scheduler = s.scheduler)
        ∧ t.bit = s.bit ∧ t.recipes = s.recipes)

/-- The requests on the claimed board that need no slot. -/
def Obligations.ClaimedBoardIsGrippedReleasedOrRejected : Prop :=
  Says.PickRequestsNameTheClaimedBoard ∧ Says.GrippedAndRelease ∧ Says.RejectPlacedFillsTheBin

/-! ### The router bit -/

/-- BIT_CHANGE: its checks in their order; the serial and W as given, the flag clear, the parameters kept, BIT_WORN no
longer active, a BIT save queued. -/
abbrev Sys2Proof.Says.BitChangeMountsABit : Prop :=
  ∀ (s : State) (p : Port) (serial wear : Word32), s.Reaches p 27 →
    let i := Instr.bitChange p serial wear
    (s.bit.record.params.endOfLife ≤ wear.toNat → Refuses i s p 27 .outOfRange)
    ∧ (wear.toNat < s.bit.record.params.endOfLife →
      (¬ (s.cell.state = .standby ∨ s.cell.state = .park) ∨ s.scheduler.window ≠ [] → Refuses i s p 27 .wrongState)
      ∧ (s.cell.state = .standby ∨ s.cell.state = .park → s.scheduler.window = [] → ∃ t,
          Answers i s t p 27 .accepted (bytes32 serial ++ bytes32 wear)
          ∧ t.bit = { s.bit with record := { s.bit.record with serial := serial.toNat, wear := wear.toNat }, worn := false }
          ∧ t.fault .bitWorn = { s.fault .bitWorn with active := false } ∧ (∀ k, k ≠ .bitWorn → t.fault k = s.fault k)
          ∧ t.cell.state = s.cell.state ∧ t.cell.parkTimer = s.cell.parkTimer
          ∧ t.cell.holds = { s.cell.holds with fault := t.faultHolds } ∧ t.cell.lastRaised = s.cell.lastRaised
          ∧ t.store = (State.storeBegin ({ s with bit := t.bit }.queueSave .bit)).store
          ∧ { t with bit := s.bit, cell := s.cell, store := s.store, ports := s.ports } = s))

/-- BIT_SETUP: its checks in their order; the seven parameters replaced together, the rest kept, a BIT save queued. -/
abbrev Sys2Proof.Says.BitSetupReplacesTheParameters : Prop :=
  ∀ (s : State) (p : Port) (n : Byte) (span : Word32) (z0 : Word16) (d : Byte) (wd weol : Word32) (fmin : Word16),
    s.Reaches p 28 →
    let i := Instr.bitSetup p n span z0 d wd weol fmin
    let inRange := 1 ≤ n.toNat ∧ n.toNat ≤ 6 ∧ 1 ≤ span.toNat ∧ span.toNat ≤ 10000000 ∧ z0.toNat ≤ 1000
      ∧ 1 ≤ d.toNat ∧ d.toNat ≤ 100 ∧ wd.toNat < weol.toNat ∧ 1 ≤ weol.toNat ∧ weol.toNat ≤ 100000000
      ∧ 1 ≤ fmin.toNat ∧ fmin.toNat ≤ 1000
    let allowedNow := (s.cell.state = .standby ∨ s.cell.state = .park) ∧ s.scheduler.window = [] ∧ s.bit.worn = false
    (¬ inRange → Refuses i s p 28 .outOfRange)
    ∧ (inRange → ¬ allowedNow → Refuses i s p 28 .wrongState)
    ∧ (inRange → allowedNow → weol.toNat ≤ s.bit.record.wear → Refuses i s p 28 .limitBelowUse)
    ∧ (inRange → allowedNow → s.bit.record.wear < weol.toNat →
        let params : BitParams :=
          { levels := n.toNat, span := span.toNat, baseDepth := z0.toNat, levelStep := d.toNat,
            derateStart := wd.toNat, endOfLife := weol.toNat, minFeed := fmin.toNat }
        Answers i s
          (State.storeBegin ({ s with bit := { s.bit with record := { s.bit.record with params := params } } }.queueSave .bit))
          p 28 .accepted
          ([n] ++ bytes32 span ++ bytes16 z0 ++ [d] ++ bytes32 wd ++ bytes32 weol ++ bytes16 fmin))

/-- BIT_CHANGE and BIT_SETUP. -/
def Obligations.BitChangeAndSetup : Prop :=
  Says.BitChangeMountsABit ∧ Says.BitSetupReplacesTheParameters

/-- The Z depth of a grant: L = floor(W / S) mod n lies in 0..n - 1, and the depth is z0 + L d, at most 1,000. -/
abbrev Sys2Proof.Says.DepthFollowsTheLevel : Prop :=
  ∀ r : BitRecord, 1 ≤ r.params.levels → 1 ≤ r.params.span →
    r.level < r.params.levels
    ∧ (∀ q, q * r.params.span ≤ r.wear → r.wear < (q + 1) * r.params.span → r.level = q % r.params.levels)
    ∧ r.depth = (if 1000 < r.params.baseDepth + r.level * r.params.levelStep then 1000
                 else r.params.baseDepth + r.level * r.params.levelStep)
    ∧ (r.params.levels = 1 → r.level = 0 ∧ (r.params.baseDepth ≤ 1000 → r.depth = r.params.baseDepth))

/-- The feed of a grant: F0 up to Wd and below Fmin always, the floor of the straight line between Wd and Weol, never
above F0 and never below Fmin; the override is a percentage, and the result lies in 1..1,000. -/
abbrev Sys2Proof.Says.FeedIsDeratedAndOverridden : Prop :=
  ∀ (u : BitUnit) (f0 : Nat),
    let w := u.record.wear; let wd := u.record.params.derateStart; let weol := u.record.params.endOfLife
    let fmin := u.record.params.minFeed
    wd < weol → w < weol →
    (f0 < fmin → u.record.feed f0 = f0)
    ∧ (fmin ≤ f0 → w ≤ wd → u.record.feed f0 = f0)
    ∧ (fmin ≤ f0 → wd < w → u.record.feed f0 = fmin + (f0 - fmin) * (weol - w) / (weol - wd)
        ∧ fmin ≤ u.record.feed f0 ∧ u.record.feed f0 ≤ f0)
    ∧ u.grantFeed f0 = max 1 (min 1000 (u.record.feed f0 * u.feedOverride / 100))

/-- The depth and the feed written into a grant. -/
def Obligations.DepthAndFeedOfAGrant : Prop :=
  Says.DepthFollowsTheLevel ∧ Says.FeedIsDeratedAndOverridden

/-! ### The spindle loop -/

/-- The target count is 60,000,000 SR / R rounded to the nearest, a half up; the window is its band/256; and for an SR of
1, 2 or 4 every target count of the speed range lies in 64..65,534. -/
def Obligations.TargetCountAndWindow : Prop :=
  ∀ sr r band : Nat, 6000 ≤ r → r ≤ 60000 →
    2 * r * targetCount sr r ≤ 120000000 * sr + r ∧ 120000000 * sr + r < 2 * r * (targetCount sr r + 1)
    ∧ (let c := targetCount sr r
       256 * speedWindow c band ≤ c * band ∧ c * band < 256 * (speedWindow c band + 1))
    ∧ (sr = 1 ∨ sr = 2 ∨ sr = 4 → 64 ≤ targetCount sr r ∧ targetCount sr r ≤ 65534)

/-- The spindle loop enters FAULTED with a cause: duty 0, the measurement and the timers gone, every grant revoked, and
SPINDLE_FAULT raised. -/
abbrev Sys2Proof.Machine.SpindleFaults (s t : State) (cause : SpindleCause) : Prop :=
  t.spindle.state = .faulted ∧ t.spindle.duty = 0 ∧ t.spindle.measurement = none ∧ t.spindle.kickTimer = none
    ∧ t.spindle.settleTimer = none ∧ t.spindle.cause = some cause ∧ t.spindle.reference = s.spindle.reference
    ∧ t.spindle.recipeRpm = s.spindle.recipeRpm ∧ t.spindle.override = s.spindle.override
    ∧ t.scheduler = { s.scheduler with window := s.scheduler.window.map fun g => { g with live := false } }
    ∧ ((s.scheduler.window.any fun g => g.live) = true → t.isPending .router .grantRevoked = true)
    ∧ (t.fault .spindleFault).active = true
    ∧ ((s.fault .spindleFault).enabled = true →
        (t.fault .spindleFault).count = min 255 ((s.fault .spindleFault).count + 1)
          ∧ t.isPending .cell .faultRaised = true
          ∧ ((s.fault .spindleFault).action = .park → s.working → t.cell.state = .park))
    ∧ { t with spindle := s.spindle, scheduler := s.scheduler, cell := s.cell, store := s.store, ports := s.ports } = s

/-- A completed measurement with error e against the target C and window Wc: the loop step of the duty, the strain count
and the ways out of RAMPING, the miss count and the way out of AT_SPEED. -/
def Obligations.CompletedMeasurementStepsTheLoop : Prop :=
  ∀ (s : State) (count : Nat) (stall : Bool),
    let k := s.constants.spindle
    let e : Int := (count : Int) - (s.target : Int)
    let w : Int := (s.window : Int)
    let t := s.completeMeasurement count stall
    let last : LastResult := { count := count, stall := stall }
    let step : Int := if -w ≤ e ∧ e ≤ w then 1 else (k.coarseStep : Int)
    let duty : Int := if 0 < e then min 1023 ((s.spindle.duty : Int) + step)
      else if e < 0 then max 0 ((s.spindle.duty : Int) - step) else (s.spindle.duty : Int)
    (s.spindle.state = .ramping →
      let strain := if stall = true ∨ (s.spindle.duty = 1023 ∧ w < e) then s.spindle.strain + 1 else 0
      (k.stallDepth ≤ strain → SpindleFaults s t .strain ∧ t.spindle.last = some last)
      ∧ (strain < k.stallDepth → s.spindle.reference = s.spindle.commanded → -w ≤ e → e ≤ w →
          t = { s with spindle := { s.spindle with state := .atSpeed, duty := duty.toNat, last := some last, strain := 0,
                                                   miss := 0, settleTimer := none } })
      ∧ (strain < k.stallDepth → ¬ (s.spindle.reference = s.spindle.commanded ∧ -w ≤ e ∧ e ≤ w) →
          t = { s with spindle := { s.spindle with duty := duty.toNat, last := some last, strain := strain } }))
    ∧ (s.spindle.state = .atSpeed →
      let miss := if stall = true ∨ ¬ (-w ≤ e ∧ e ≤ w) then s.spindle.miss + 1 else 0
      (k.missDepth ≤ miss →
        t = { s with spindle := { s.spindle with state := .ramping, duty := duty.toNat, last := some last, strain := 0,
                                                 miss := miss,
                                                 settleTimer := some { ms := k.settleLimit * 1000, us := 0 } } })
      ∧ (miss < k.missDepth →
        t = { s with spindle := { s.spindle with duty := duty.toNat, last := some last, miss := miss } }))

/-- A tach edge: counted in KICK, where the second one ends the kick and begins the ramp; in RAMPING and AT_SPEED it
synchronises, counts in, or completes the measurement, and a measurement that would saturate before it completes as a
stall first (log entry 4); elsewhere it has no effect. -/
abbrev Sys2Proof.Says.TachEdgesDriveTheMeasurement : Prop :=
  ∀ (s : State) (cycles : Word16), s.starting = false →
    (s.spindle.state = .stopped ∨ s.spindle.state = .faulted → exec (.tachEdge cycles) s = .next s.storeBegin)
    ∧ (s.spindle.state = .kick → s.spindle.kickEdges = 0 →
        exec (.tachEdge cycles) s = .next (State.storeBegin { s with spindle := { s.spindle with kickEdges := 1 } }))
    ∧ (s.spindle.state = .kick → 1 ≤ s.spindle.kickEdges →
        exec (.tachEdge cycles) s = .next (State.storeBegin { s with spindle := { s.spindle with
          state := .ramping, kickEdges := s.spindle.kickEdges + 1, duty := s.constants.spindle.startDuty,
          reference := 6000, strain := 0, kickTimer := none,
          measurement := some { count := 0, edges := 0, synchronised := true },
          settleTimer := if s.spindle.commanded = 6000 then
            some { ms := s.constants.spindle.settleLimit * 1000, us := 0 } else none } }))
    ∧ (s.spindle.state = .ramping ∨ s.spindle.state = .atSpeed → ∀ m, s.spindle.measurement = some m →
        let synchronised := fun (u : State) => ({ u with spindle := { u.spindle with
          measurement := some { count := 0, edges := 0, synchronised := true } } } : State)
        let reached := m.count + cycles.toNat
        (reached < 65535 → m.synchronised = false → exec (.tachEdge cycles) s = .next (synchronised s).storeBegin)
        ∧ (reached < 65535 → m.synchronised = true → m.edges + 1 < s.constants.spindle.sr →
            exec (.tachEdge cycles) s = .next (State.storeBegin { s with spindle := { s.spindle with
              measurement := some { count := reached, edges := m.edges + 1, synchronised := true } } }))
        ∧ (reached < 65535 → m.synchronised = true → s.constants.spindle.sr ≤ m.edges + 1 → ∃ t,
            exec (.tachEdge cycles) s = .next t
            ∧ t.spindle = ((synchronised s).completeMeasurement reached false).spindle ∧ t.panels = s.panels
            ∧ t.bit = s.bit ∧ t.recipes = s.recipes)
        ∧ (65535 ≤ reached → ∃ t, exec (.tachEdge cycles) s = .next t
            ∧ t.spindle.last = some { count := 65535, stall := true }
            ∧ (t.spindle.state ≠ .faulted →
                t.spindle.measurement = some { count := 0, edges := 0, synchronised := true })))

/-- The saturation of the measurement in progress: a stall measurement of 65,535 completes, and an unsynchronised one
begins. MODEL'S CHOICE (log entry 2): the row is taken at any count, and with no measurement it has no effect of its
own. -/
abbrev Sys2Proof.Says.StallMeasurementCompletes : Prop :=
  ∀ s : State, s.starting = false →
    (s.spindle.measurement = none → exec .stallMeasurement s = .next s.storeBegin)
    ∧ (∀ m, s.spindle.measurement = some m → ∃ t, exec .stallMeasurement s = .next t
        ∧ (let begun : State := { s with spindle := { s.spindle with
             measurement := some { count := 0, edges := 0, synchronised := false } } }
           t.spindle = (begun.completeMeasurement 65535 true).spindle)
        ∧ t.panels = s.panels ∧ t.bit = s.bit ∧ t.recipes = s.recipes)

/-- The control period: in RAMPING the reference moves toward the commanded rpm by at most the ramp rate, and its arrival
loads the settle timer; in every other state it stays. The period begins anew. MODEL'S CHOICE (log entry 2): the row is
taken at any phase of the period. -/
abbrev Sys2Proof.Says.ControlPeriodStepsTheReference : Prop :=
  ∀ s : State, s.starting = false →
    let r := s.spindle.reference; let c := s.spindle.commanded; let rate := s.constants.spindle.rampRate
    let next := if r < c then min c (r + rate) else if c < r then max c (r - rate) else r
    (s.spindle.state = .ramping → exec .controlPeriod s = .next (State.storeBegin { s with spindle := { s.spindle with
        reference := next, controlPhase := 0,
        settleTimer := if r ≠ c ∧ next = c then some { ms := s.constants.spindle.settleLimit * 1000, us := 0 }
                       else s.spindle.settleTimer } }))
    ∧ (s.spindle.state ≠ .ramping →
        exec .controlPeriod s = .next (State.storeBegin { s with spindle := { s.spindle with controlPhase := 0 } }))

/-- The tach line, the saturation of a measurement, and the control period (the model's choices in it: log entries 2 and
4). -/
def Obligations.TachAndControlPeriodDriveTheLoop : Prop :=
  Says.TachEdgesDriveTheMeasurement ∧ Says.StallMeasurementCompletes ∧ Says.ControlPeriodStepsTheReference

/-- The kick timer or the settle timer running out faults the loop with its cause; with no such timer running nothing
happens (log entry 2). -/
abbrev Sys2Proof.Says.SpindleTimersFaultTheLoop : Prop :=
  ∀ s : State, s.starting = false →
    (s.spindle.kickTimer = none → exec .kickTimeout s = .next s.storeBegin)
    ∧ (s.spindle.settleTimer = none → exec .settle s = .next s.storeBegin)
    ∧ (∀ x, s.spindle.kickTimer = some x → ∃ t, exec .kickTimeout s = .next t ∧ SpindleFaults s t .kickTimeout)
    ∧ (∀ x, s.spindle.settleTimer = some x → ∃ t, exec .settle s = .next t ∧ SpindleFaults s t .settle)

/-- SPINDLE_RESET: from FAULTED to STOPPED, or in RUN and HOLD on to KICK, with SPINDLE_FAULT no longer active and its
latch kept. -/
abbrev Sys2Proof.Says.SpindleResetLeavesFaulted : Prop :=
  ∀ (s : State) (p : Port), s.Reaches p 29 → HoldsSafe s →
    (s.spindle.state ≠ .faulted → Refuses (.spindleReset p) s p 29 .wrongState)
    ∧ (s.spindle.state = .faulted → ∃ t,
        Answers (.spindleReset p) s t p 29 .accepted [if s.cell.state = .run ∨ s.cell.state = .hold then 1 else 0]
        ∧ t.spindle = (if s.cell.state = .run ∨ s.cell.state = .hold then
            { s.spindle with state := .kick, duty := s.constants.spindle.kickDuty, kickEdges := 0,
                             kickTimer := some { ms := s.constants.spindle.kickTimeout, us := 0 } }
            else { s.spindle with state := .stopped })
        ∧ t.fault .spindleFault = { s.fault .spindleFault with active := false }
        ∧ (∀ k, k ≠ .spindleFault → t.fault k = s.fault k)
        ∧ t.cell.holds = { s.cell.holds with fault := t.faultHolds }
        ∧ t.cell.state = (if s.cell.state = .hold ∧ t.cell.holds.isEmpty = true then .run else s.cell.state)
        ∧ { t with spindle := s.spindle, cell := s.cell, store := s.store, ports := s.ports } = s)

/-- The ways into FAULTED by a timer, and the way out. -/
def Obligations.SpindleFaultsAndItsReset : Prop :=
  Says.SpindleTimersFaultTheLoop ∧ Says.SpindleResetLeavesFaulted

/-! ### The magazine map -/

/-- MAG_LOADED: its checks in their order; the register entry made, or touched with its new type and its damage kept; and
the session as it opens. -/
def Obligations.MagLoadedOpensASession : Prop :=
  ∀ (s : State) (p : Port) (tag : Word32) (type : Byte), s.Reaches p 72 → RegisterSafe s →
    let i := Instr.magLoaded p tag type
    (type.toNat < 1 ∨ 4 < type.toNat → Refuses i s p 72 .outOfRange)
    ∧ ∀ n : Fin 4, type.toNat = n.val + 1 →
      (s.magazine.session.isSome = true → Refuses i s p 72 .inUse)
      ∧ (s.magazine.session = none → s.magazine.closed.isSome = true → Refuses i s p 72 .manifestPending)
      ∧ (s.magazine.session = none → s.magazine.closed = none → ∃ t,
          let r := s.magazine.register
          let old := r.find? fun e => e.tag == tag.toNat
          let retired := (old.map (·.retired)).getD []
          let condemned := (old.map (·.condemned)).getD false
          let count := s.constants.types[n].slotCount
          let slots := (List.range' 1 count).map fun k =>
            ({ state := if retired.contains k then .retired else .empty, failures := 0 } : Slot)
          let full := condemned || slots.all fun x => x.state != .empty
          Answers i s t p 72 .accepted
            (n8 count ++ n32 (slots.filter fun x => x.state == .retired).length ++ flag condemned)
          ∧ t.magazine.session = some
              { tag := tag.toNat, typeNumber := type.toNat, type := s.constants.types[n], condemned := condemned,
                slots := slots, manifest := [], stow := 1, full := if full then some 1 else none }
          ∧ (full = true → t.isPending .magazine .unloadWanted = true)
          ∧ (∀ e, old = some e →
              t.magazine.register = r.filter (fun x => x.tag != tag.toNat) ++ [{ e with type := type.toNat }])
          ∧ (old = none → t.magazine.register = (if r.length < 16 then r else r.tail)
              ++ [{ tag := tag.toNat, type := type.toNat, retired := [], condemned := false }])
          ∧ t.magazine.closed = none ∧ t.magazine.binCount = s.magazine.binCount
          ∧ t.gripper.claim = s.gripper.claim ∧ t.gripper.queue = s.gripper.queue
          ∧ t.store = (State.storeBegin ({ s with magazine := t.magazine }.queueSave .register)).store
          ∧ { t with magazine := s.magazine, gripper := s.gripper, store := s.store, ports := s.ports } = s)

/-- MAG_UNLOAD: refused without a magazine and while a slot is RESERVED or DOUBT or an insertion is open; otherwise the
manifest is closed, the entry is touched, and the session and the confirmation end. -/
abbrev Sys2Proof.Says.MagUnloadClosesTheManifest : Prop :=
  ∀ (s : State) (p : Port), s.Reaches p 73 →
    let i := Instr.magUnload p
    (s.magazine.session = none → Refuses i s p 73 .wrongState)
    ∧ ∀ m, s.magazine.session = some m →
      let unsettled := ∃ x ∈ m.slots, ∃ id, x.state = .reserved id ∨ x.state = .doubt id
      (unsettled ∨ s.insertion.insertion.isSome = true → Refuses i s p 73 .busy)
      ∧ (¬ unsettled → s.insertion.insertion = none → ∃ t, Answers i s t p 73 .accepted (n32 m.manifest.length)
          ∧ t.magazine = { s.magazine with
              register := s.magazine.register.filter (fun e => e.tag != m.tag)
                ++ s.magazine.register.filter (fun e => e.tag == m.tag)
              session := none
              closed := some { tag := m.tag, typeNumber := m.typeNumber, entries := m.manifest } }
          ∧ t.insertion = { s.insertion with confirmation := none }
          ∧ t.isPending .cell .manifestReady = true
          ∧ t.gripper.claim = s.gripper.claim ∧ t.gripper.queue = s.gripper.queue
          ∧ t.store = (State.storeBegin ({ s with magazine := t.magazine }.queueSave .register)).store
          ∧ { t with magazine := s.magazine, insertion := s.insertion, gripper := s.gripper, store := s.store,
                     ports := s.ports } = s)

/-- A board stowed at slot j: its run FILLED, the count of slot j 0, a manifest entry with the next stow number appended,
and the board STOWED without a seat doubt. -/
abbrev Sys2Proof.Machine.StowedAt (s t : State) (l : Located) (m : Session) (j : Nat) : Prop :=
  (∃ u, t.magazine.session = some u
    ∧ u.manifest = m.manifest ++ [{ stow := m.stow, first := j, height := l.board.height, board := l.id }]
    ∧ u.stow = m.stow + 1 ∧ u.slots = ((m.setRun j l.board.height (.filled l.id)).setFailures j 0).slots
    ∧ u.tag = m.tag ∧ u.type = m.type ∧ u.condemned = m.condemned)
  ∧ (∃ review, t.boardAt l.record l.index = some { l.board with state := .stowed, review := review }
      ∧ review ≠ some .seatDoubt)
  ∧ BoardsElsewhere s t l.record l.index

/-- A board's RESERVED run in doubt: every slot of it DOUBT with its reference, nothing in the manifest, the board
VERIFYING as it was, REVIEW_NEEDED posted and SEAT_DOUBT raised. -/
abbrev Sys2Proof.Machine.InDoubt (s t : State) (l : Located) (m : Session) : Prop :=
  (∃ u, t.magazine.session = some u ∧ u.manifest = m.manifest ∧ u.stow = m.stow
    ∧ u.slots = m.slots.map (fun x => if x.state = .reserved l.id then { x with state := .doubt l.id } else x))
  ∧ (∃ review, t.boardAt l.record l.index = some { l.board with review := review }
      ∧ (l.board.state = .verifying → (∃ x ∈ m.slots, x.state = .reserved l.id) → review ≠ none))
  ∧ BoardsElsewhere s t l.record l.index ∧ t.isPending .cell .reviewNeeded = true
  ∧ ((s.fault .seatDoubt).enabled = true →
      (t.fault .seatDoubt).count = min 255 ((s.fault .seatDoubt).count + 1) ∧ t.cell.lastRaised = some .seatDoubt)

/-- RESOLVE_SLOT: its checks in their order; PRESENT stows the board at the slot; ABSENT empties the run, loses the board
and counts a seat failure of the slot. -/
def Obligations.ResolveSlotSettlesADoubt : Prop :=
  ∀ (s : State) (p : Port) (slot finding : Byte), s.Reaches p 30 →
    let i := Instr.resolveSlot p slot finding
    (1 < finding.toNat → Refuses i s p 30 .outOfRange)
    ∧ (finding.toNat ≤ 1 →
      (s.magazine.session = none → Refuses i s p 30 .wrongState)
      ∧ ∀ m, s.magazine.session = some m →
        (slot.toNat < 1 ∨ m.type.slotCount < slot.toNat → Refuses i s p 30 .outOfRange)
        ∧ (1 ≤ slot.toNat → slot.toNat ≤ m.type.slotCount →
          ((∀ x id, nth1 m.slots slot.toNat = some x → x.state ≠ .doubt id) → Refuses i s p 30 .wrongState)
          ∧ (∀ x y id, nth1 m.slots slot.toNat = some x → x.state = .doubt id →
              nth1 m.slots (slot.toNat - 1) = some y → y.state = .doubt id → Refuses i s p 30 .wrongState)
          ∧ (∀ x l, nth1 m.slots slot.toNat = some x → x.state = .doubt l.id →
              (∀ y, nth1 m.slots (slot.toNat - 1) = some y → y.state ≠ .doubt l.id) →
              s.locateId l.id = some l →
              (finding = 0 → ∃ t, Answers i s t p 30 .accepted (l.id.bytes ++ [8]) ∧ StowedAt s t l m slot.toNat)
              ∧ (finding = 1 → ∃ t, Answers i s t p 30 .accepted (l.id.bytes ++ [10])
                  ∧ (∃ review, t.boardAt l.record l.index = some { l.board with state := .lost, review := review }
                      ∧ review ≠ some .seatDoubt)
                  ∧ (x.failures = 0 → (t.magazine.session.map (·.slots)) =
                      some ((m.restate (.doubt l.id) .empty).setFailures slot.toNat 1).slots
                      ∧ t.magazine.register = s.magazine.register)))))

/-- A seat failure of a slot: its count rises; at 2 in a magazine that is not condemned the slot is RETIRED with count 0
and listed, a board that had it reserved goes to LOOSE, and SLOT_RETIRED is raised; or, with 8 slots listed already, the
magazine is condemned and the slot keeps its state. -/
abbrev Sys2Proof.Says.SeatFailureOfASlot : Prop :=
  ∀ (s : State) (k : Nat) (m : Session) (x : Slot) (e : RegisterEntry), s.magazine.session = some m →
    nth1 m.slots k = some x → s.magazine.register.find? (·.tag == m.tag) = some e → RegisterSafe s →
    let n := min 2 (x.failures + 1)
    let t := s.seatFailure k
    (n < 2 ∨ m.condemned = true → t = s.modifySession fun m => m.setFailures k n)
    ∧ (n = 2 → m.condemned = false → e.retired.length < 8 →
        (∃ u, t.magazine.session = some u ∧ nth1 u.slots k = some { state := .retired, failures := 0 })
        ∧ t.magazine.register.find? (·.tag == m.tag) = some { e with retired := insertAscending k e.retired }
        ∧ ((s.fault .slotRetired).enabled = true →
            (t.fault .slotRetired).count = min 255 ((s.fault .slotRetired).count + 1))
        ∧ (∀ l, x.state = .reserved l.id → s.locateId l.id = some l →
            t.boardAt l.record l.index = some { l.board with state := .loose, destination := none }
            ∧ t.isPending .pick .destinationReady = true
            ∧ (∀ u j y, t.magazine.session = some u → nth1 u.slots j = some y → y.state ≠ .reserved l.id)))
    ∧ (n = 2 → m.condemned = false → 8 ≤ e.retired.length →
        (∃ u, t.magazine.session = some u ∧ u.condemned = true ∧ u.full = some 1
          ∧ nth1 u.slots k = some { x with failures := 2 })
        ∧ t.magazine.register.find? (·.tag == m.tag) = some { e with condemned := true }
        ∧ t.isPending .magazine .unloadWanted = true ∧ t.panels = s.panels
        ∧ ((s.fault .magazineCondemned).enabled = true →
            (t.fault .magazineCondemned).count = min 255 ((s.fault .magazineCondemned).count + 1)))

/-- The slot is RETIRED in the session, with its register entry, and SLOT_RETIRED is raised (R107). -/
abbrev Sys2Proof.Machine.RetiredInRegister (s t : State) (m : Session) (e : RegisterEntry) (k : Nat) : Prop :=
  t.magazine.register.find? (·.tag == m.tag) = some { e with retired := insertAscending k e.retired }
    ∧ ((s.fault .slotRetired).enabled = true →
        (t.fault .slotRetired).count = min 255 ((s.fault .slotRetired).count + 1)
          ∧ t.isPending .cell .faultRaised = true)

/-- The magazine is condemned in its session and its register entry, the full mark stands with UNLOAD_WANTED, and
MAGAZINE_CONDEMNED is raised (R108). -/
abbrev Sys2Proof.Machine.CondemnedInRegister (s t : State) (m : Session) (e : RegisterEntry) : Prop :=
  (t.magazine.session.map fun u => (u.condemned, u.full)) = some (true, some 1)
    ∧ t.magazine.register.find? (·.tag == m.tag) = some { e with condemned := true }
    ∧ t.isPending .magazine .unloadWanted = true
    ∧ ((s.fault .magazineCondemned).enabled = true →
        (t.fault .magazineCondemned).count = min 255 ((s.fault .magazineCondemned).count + 1)
          ∧ t.isPending .cell .faultRaised = true)

/-- INSERT_END aborted at the second failure of the slot, in a magazine that is not condemned: with fewer than eight slots
listed the slot is RETIRED with count 0, the rest of the run EMPTY, and the board LOOSE without a destination; with eight
listed the magazine is condemned, and the board is BOUND again, or LOOSE if it was diverted. -/
abbrev Sys2Proof.Says.SecondFailureAtAnAbortedInsertion : Prop :=
  ∀ (s : State) (p : Port) (serial : Word32) (b : Byte) (l : Located) (k : Nat) (m : Session) (x : Slot)
    (e : RegisterEntry), s.Reaches p 63 → s.locateId { serial := serial.toNat, board := b.toNat } = some l →
    s.gripper.claim = some l.id → l.board.state = .inserting → l.board.destination = some (.slot k) →
    s.magazine.session = some m → m.condemned = false → nth1 m.slots k = some x → x.state = .reserved l.id →
    1 ≤ x.failures → s.magazine.register.find? (·.tag == m.tag) = some e →
    let i := Instr.insertEndAborted p serial b
    let loose : Board := { l.board with state := .loose, destination := none }
    let closed := fun (t : State) => t.insertion = { s.insertion with insertion := none } ∧ t.elevator = s.elevator
      ∧ t.gripper.claim = s.gripper.claim ∧ BoardsElsewhere s t l.record l.index
    (e.retired.length < 8 → ∃ t, Answers i s t p 63 .accepted ([4] ++ n32 0)
      ∧ t.boardAt l.record l.index = some loose ∧ closed t ∧ t.isPending .pick .destinationReady = true
      ∧ (t.magazine.session.map (·.slots)) =
          some ((((m.setRun k 1 .retired).setFailures k 0).restate (.reserved l.id) .empty).slots)
      ∧ RetiredInRegister s t m e k)
    ∧ (8 ≤ e.retired.length → l.board.divert = false → ∃ t,
        Answers i s t p 63 .accepted ([5, BitVec.ofNat 8 k] ++ n32 2)
        ∧ t.boardAt l.record l.index = some { l.board with state := .bound } ∧ closed t
        ∧ (t.magazine.session.map (·.slots)) = some (m.setFailures k 2).slots ∧ CondemnedInRegister s t m e)
    ∧ (8 ≤ e.retired.length → l.board.divert = true → ∃ t, Answers i s t p 63 .accepted ([4] ++ n32 2)
        ∧ t.boardAt l.record l.index = some loose ∧ closed t ∧ t.isPending .pick .destinationReady = true
        ∧ (t.magazine.session.map (·.slots)) = some ((m.setFailures k 2).restate (.reserved l.id) .empty).slots
        ∧ CondemnedInRegister s t m e)

/-- RESOLVE_SLOT with ABSENT at the second failure of the slot: the board is LOST and its run EMPTY; in a magazine that is
not condemned the slot is then RETIRED with count 0, or, with eight slots listed, the magazine condemned and the slot left
EMPTY with count 2; in a condemned one the count alone stands at 2. -/
abbrev Sys2Proof.Says.SecondFailureAtAnAbsentBoard : Prop :=
  ∀ (s : State) (p : Port) (slot : Byte) (l : Located) (m : Session) (x : Slot), s.Reaches p 30 →
    s.magazine.session = some m → 1 ≤ slot.toNat → slot.toNat ≤ m.type.slotCount →
    nth1 m.slots slot.toNat = some x → x.state = .doubt l.id →
    (∀ y, nth1 m.slots (slot.toNat - 1) = some y → y.state ≠ .doubt l.id) → s.locateId l.id = some l →
    1 ≤ x.failures →
    let emptied := m.restate (.doubt l.id) .empty
    ∃ t, Answers (.resolveSlot p slot 1) s t p 30 .accepted (l.id.bytes ++ [10])
      ∧ (∃ review, t.boardAt l.record l.index = some { l.board with state := .lost, review := review }
          ∧ review ≠ some .seatDoubt)
      ∧ BoardsElsewhere s t l.record l.index
      ∧ (m.condemned = true → t.magazine.register = s.magazine.register
          ∧ (t.magazine.session.map (·.slots)) = some (emptied.setFailures slot.toNat 2).slots)
      ∧ ∀ e, m.condemned = false → s.magazine.register.find? (·.tag == m.tag) = some e →
        (e.retired.length < 8 → RetiredInRegister s t m e slot.toNat
          ∧ (t.magazine.session.map (·.slots)) =
              some ((emptied.setRun slot.toNat 1 .retired).setFailures slot.toNat 0).slots)
        ∧ (8 ≤ e.retired.length → CondemnedInRegister s t m e
          ∧ (t.magazine.session.map (·.slots)) = some (emptied.setFailures slot.toNat 2).slots)

/-- A seat failure, and the two requests that count one at its second occurrence. -/
def Obligations.SeatFailuresRetireOrCondemn : Prop :=
  Says.SeatFailureOfASlot ∧ Says.SecondFailureAtAnAbortedInsertion ∧ Says.SecondFailureAtAnAbsentBoard

/-- MANIFEST_RELEASE, BIN_EMPTIED and REGISTER_REPAIR: what each refuses and what each changes. -/
abbrev Sys2Proof.Says.ManifestBinAndRegisterRequests : Prop :=
  ∀ (s : State) (p : Port),
    (s.Reaches p 32 →
      (s.magazine.closed = none → Refuses (.manifestRelease p) s p 32 .wrongState)
      ∧ (s.magazine.closed.isSome = true →
          Answers (.manifestRelease p) s (State.storeBegin { s with magazine := { s.magazine with closed := none } }) p 32
            .accepted []))
    ∧ (s.Reaches p 33 → ∃ t, Answers (.binEmptied p) s t p 33 .accepted (n32 s.magazine.binCount)
        ∧ t.magazine = { s.magazine with binCount := 0 } ∧ (t.fault .rejectFull).active = false
        ∧ (∀ k, k ≠ .rejectFull → t.fault k = s.fault k) ∧ t.panels = s.panels ∧ t.scheduler = s.scheduler
        ∧ t.gripper.claim = s.gripper.claim ∧ t.gripper.queue = s.gripper.queue ∧ t.spindle = s.spindle)
    ∧ (s.Reaches p 34 → ∀ tag : Word32,
      ((∀ e ∈ s.magazine.register, e.tag ≠ tag.toNat) → Refuses (.registerRepair p tag) s p 34 .outOfRange)
      ∧ (∀ e ∈ s.magazine.register, e.tag = tag.toNat →
          (∀ m, s.magazine.session = some m → m.tag = tag.toNat → Refuses (.registerRepair p tag) s p 34 .inUse)
          ∧ ((∀ m, s.magazine.session = some m → m.tag ≠ tag.toNat) →
              let repaired : State := { s with magazine := { s.magazine with
                register := s.magazine.register.map fun e =>
                  if e.tag = tag.toNat then { e with retired := [], condemned := false } else e } }
              Answers (.registerRepair p tag) s (State.storeBegin (repaired.queueSave .register)) p 34 .accepted [])))

/-- MAG_UNLOAD, MANIFEST_RELEASE, BIN_EMPTIED and REGISTER_REPAIR. -/
def Obligations.UnloadManifestBinAndRepair : Prop :=
  Says.MagUnloadClosesTheManifest ∧ Says.ManifestBinAndRegisterRequests

/-! ### Positions -/

/-- The position of a slot is the base plus the pitches, rounded, reduced as the counter is; a distance is reduced into
the signed range; and the nearest slot is the one that rounding names, if it exists and lies within the tolerance. -/
def Obligations.SlotPositionsAndNearestSlot : Prop :=
  ∀ (t : MagType) (c : Word24) (k : Nat), 1 ≤ t.pitch16 →
    t.pos k = BitVec.ofInt 24 (t.base.toInt + (((k - 1 : Nat) : Int) * t.pitch16 + 8) / 16)
    ∧ (∀ a b : Word24, -8388608 ≤ countDiff a b ∧ countDiff a b ≤ 8388607
        ∧ (a.toInt - b.toInt - countDiff a b) % 16777216 = 0)
    ∧ (t.near c k = true ↔ -(t.tolerance : Int) ≤ countDiff c (t.pos k) ∧ countDiff c (t.pos k) ≤ t.tolerance)
    ∧ (1 ≤ k → (t.nearest c = .slot k ↔ k ≤ t.slotCount ∧ t.near c k = true
        ∧ ((k : Int) - 1) * t.pitch16 ≤ countDiff c t.base * 16 + ((t.pitch16 / 2 : Nat) : Int)
        ∧ countDiff c t.base * 16 + ((t.pitch16 / 2 : Nat) : Int) < (k : Int) * t.pitch16))
    ∧ t.nearest c ≠ .none

/-! ### The elevator and insertion control -/

/-- HOME_BEGIN: refused while an insertion is open; otherwise the unit is armed and not HOMED, and a confirmation is
withdrawn if HOMED was set; one that finds the unit armed changes nothing. The counter is answered and kept. -/
abbrev Sys2Proof.Says.HomeBeginArmsHoming : Prop :=
  ∀ (s : State) (p : Port), s.Reaches p 74 →
    let i := Instr.homeBegin p
    (s.insertion.insertion.isSome = true → Refuses i s p 74 .busy)
    ∧ (s.insertion.insertion = none → s.elevator.armed = true →
        Answers i s s p 74 .accepted (bytes24 s.elevator.counter))
    ∧ (s.insertion.insertion = none → s.elevator.armed = false → ∃ t,
        Answers i s t p 74 .accepted (bytes24 s.elevator.counter)
        ∧ t.elevator = { s.elevator with armed := true, homed := false }
        ∧ t.insertion = { s.insertion with
            confirmation := if s.elevator.homed then none else s.insertion.confirmation }
        ∧ (∀ k, s.elevator.homed = true → s.boundSlot = some k → s.insertion.confirmation = some k →
            t.isPending .magazine .positionWanted = true)
        ∧ { t with elevator := s.elevator, insertion := s.insertion, store := s.store, ports := s.ports } = s)

/-- MOVE_BEGIN grants the permission and withdraws the confirmation; ARRIVED ends both and then confirms the slot of the
BOUND target board if the unit is HOMED and the counter within the tolerance. Both are BUSY while an insertion is open. -/
abbrev Sys2Proof.Says.MovesAndArrivals : Prop :=
  ∀ (s : State) (p : Port),
    (s.Reaches p 75 →
      (s.insertion.insertion.isSome = true → Refuses (.moveBegin p) s p 75 .busy)
      ∧ (s.insertion.insertion = none → ∃ t, Answers (.moveBegin p) s t p 75 .accepted []
          ∧ t.insertion = { s.insertion with permission := true, confirmation := none }
          ∧ (s.boundSlot.isSome = true → t.isPending .magazine .positionWanted = true)
          ∧ { t with insertion := s.insertion, store := s.store, ports := s.ports } = s))
    ∧ (s.Reaches p 76 →
      (s.insertion.insertion.isSome = true → Refuses (.arrived p) s p 76 .busy)
      ∧ (s.insertion.insertion = none →
        let ended : Insertion := { s.insertion with permission := false, confirmation := none }
        (s.boundSlot = none → ∃ t, Answers (.arrived p) s t p 76 (.refused .wrongState) [] ∧ t.insertion = ended
          ∧ { t with insertion := s.insertion, store := s.store, ports := s.ports } = s)
        ∧ ∀ k m, s.boundSlot = some k → s.magazine.session = some m →
          let c := s.elevator.counter
          let diff := c - m.type.pos k
          (s.elevator.homed = false → ∃ t, Answers (.arrived p) s t p 76 (.refused .notHomed) [] ∧ t.insertion = ended
            ∧ { t with insertion := s.insertion, store := s.store, ports := s.ports } = s)
          ∧ (s.elevator.homed = true → m.type.near c k = false → ∃ t,
            Answers (.arrived p) s t p 76 (.refused .offTarget) (bytes24 diff) ∧ t.insertion = ended
            ∧ { t with insertion := s.insertion, store := s.store, ports := s.ports } = s)
          ∧ (s.elevator.homed = true → m.type.near c k = true → ∃ t,
            Answers (.arrived p) s t p 76 .accepted (BitVec.ofNat 8 k :: bytes24 c ++ bytes24 diff)
            ∧ t.insertion = { ended with confirmation := some k } ∧ t.isPending .pick .slotReady = true
            ∧ { t with insertion := s.insertion, store := s.store, ports := s.ports } = s)))

/-- The samples of the encoder lines: no change leaves the counter, a change of one line counts up in the order
00, 10, 11, 01, 00 of A and B and down in the other, modulo 2^24; a confirmation out of tolerance is withdrawn, and an
open insertion out of tolerance disturbed. -/
def Obligations.EncoderTransitionsCount : Prop :=
  ∀ (s : State) (a b : Bool), s.starting = false →
    let before := (s.lines.encoderA, s.lines.encoderB)
    let ups := [((false, false), (true, false)), ((true, false), (true, true)), ((true, true), (false, true)),
      ((false, true), (false, false))]
    (before = (a, b) → exec (.encoderTransition a b) s = .next s.storeBegin)
    ∧ (((before, (a, b)) ∈ ups ∨ ((a, b), before) ∈ ups) → ∃ t, exec (.encoderTransition a b) s = .next t
        ∧ t.elevator = { s.elevator with counter :=
            if (before, (a, b)) ∈ ups then s.elevator.counter + 1 else s.elevator.counter - 1 }
        ∧ t.lines = { s.lines with encoderA := a, encoderB := b }
        ∧ (s.magazine.session = none → t.insertion = s.insertion)
        ∧ (∀ m, s.magazine.session = some m →
            (∀ k, s.insertion.confirmation = some k → t.insertion.confirmation =
              if m.type.near t.elevator.counter k then some k else none)
            ∧ (s.insertion.confirmation = none → t.insertion.confirmation = none)
            ∧ (∀ o, s.insertion.insertion = some o → t.insertion.insertion =
                some { o with disturbed := o.disturbed || !m.type.near t.elevator.counter o.first })
            ∧ (s.insertion.insertion = none → t.insertion.insertion = none)
            ∧ (∀ o, s.insertion.insertion = some o → o.disturbed = false →
                m.type.near t.elevator.counter o.first = false →
                t.isPending .pick .insertDisturbed = true ∧ t.isPending .magazine .insertDisturbed = true))
        ∧ t.insertion.permission = s.insertion.permission ∧ t.insertion.wait = s.insertion.wait
        ∧ { t with elevator := s.elevator, lines := s.lines, insertion := s.insertion, store := s.store,
                   ports := s.ports } = s)

/-- An illegal transition, as either row of the table gives it: both levels change, the counter stays, HOMED is cleared,
the count rises and saturates; ENCODER_ERROR is raised if it was not active; the confirmation is withdrawn, an open
insertion disturbed, and a settle wait ends in doubt. -/
def Obligations.IllegalTransitionsBreakTheCount : Prop :=
  ∀ s : State, s.starting = false →
    let a := !s.lines.encoderA; let b := !s.lines.encoderB
    ∃ t, exec .illegalTransition s = .next t ∧ exec (.encoderTransition a b) s = .next t
      ∧ t.elevator = { s.elevator with homed := false, illegalCount := min 255 (s.elevator.illegalCount + 1) }
      ∧ t.lines = { s.lines with encoderA := a, encoderB := b }
      ∧ (t.fault .encoderError).active = true
      ∧ ((s.fault .encoderError).active = false →
          t.isPending .magazine .homingNeeded = true
          ∧ ((s.fault .encoderError).enabled = true →
              (t.fault .encoderError).count = min 255 ((s.fault .encoderError).count + 1)))
      ∧ ((s.fault .encoderError).active = true → (t.fault .encoderError).count = (s.fault .encoderError).count)
      ∧ t.insertion.confirmation = none ∧ t.insertion.wait = none
      ∧ t.insertion.insertion = s.insertion.insertion.map (fun o => { o with disturbed := true })
      ∧ t.insertion.permission = s.insertion.permission
      ∧ (s.insertion.wait = none → t.panels = s.panels ∧ t.magazine = s.magazine)
      ∧ (∀ w l m, s.insertion.wait = some w → s.locateId w.board = some l → s.magazine.session = some m →
          InDoubt s t l m)

/-- A reference edge: with the unit armed the counter takes the home preset, HOMED is set, the unit is no longer armed
and ENCODER_ERROR no longer active; otherwise only the sampled level changes. -/
abbrev Sys2Proof.Says.ReferenceEdgeCompletesHoming : Prop :=
  ∀ s : State, s.starting = false →
    (s.elevator.armed = false →
      exec .referenceEdge s = .next (State.storeBegin { s with lines := { s.lines with reference := true } }))
    ∧ (s.elevator.armed = true → ∃ t, exec .referenceEdge s = .next t
        ∧ t.elevator = { s.elevator with counter := s.constants.homePreset, homed := true, armed := false }
        ∧ t.fault .encoderError = { s.fault .encoderError with active := false }
        ∧ (∀ k, k ≠ .encoderError → t.fault k = s.fault k) ∧ t.lines = { s.lines with reference := true }
        ∧ t.insertion.permission = s.insertion.permission ∧ t.insertion.wait = s.insertion.wait
        ∧ t.panels = s.panels ∧ t.magazine = s.magazine ∧ t.scheduler = s.scheduler ∧ t.gripper = s.gripper)

/-- HOME_BEGIN, the reference edge, MOVE_BEGIN and ARRIVED. -/
def Obligations.HomingAndMoves : Prop :=
  Says.HomeBeginArmsHoming ∧ Says.ReferenceEdgeCompletesHoming ∧ Says.MovesAndArrivals

/-- A board reserved elsewhere is stowed at slot j: the run at j is FILLED, its reservation is EMPTY, a manifest entry with
the next stow number names j, its destination is removed, and SEAT_MISMATCH is raised (R102, R142; log entry 16). -/
abbrev Sys2Proof.Machine.StowedElsewhere (s t : State) (l : Located) (m : Session) (j : Nat) : Prop :=
  (∃ u, t.magazine.session = some u
    ∧ u.manifest = m.manifest ++ [{ stow := m.stow, first := j, height := l.board.height, board := l.id }]
    ∧ u.slots = (((m.restate (.reserved l.id) .empty).setRun j l.board.height (.filled l.id)).setFailures j 0).slots)
  ∧ (∃ review, t.boardAt l.record l.index =
      some { l.board with state := .stowed, destination := none, review := review })
  ∧ BoardsElsewhere s t l.record l.index
  ∧ ((s.fault .seatMismatch).enabled = true →
      (t.fault .seatMismatch).count = min 255 ((s.fault .seatMismatch).count + 1))

/-- Verification of a board reserved at k by a capture: without HOMED, between slots, and at another slot whose run is
not EMPTY it is in doubt; at k it is stowed there; at another slot with an EMPTY run it is stowed at that slot, its
reservation is released, and SEAT_MISMATCH is raised. -/
abbrev Sys2Proof.Says.VerificationJudgesTheSeat : Prop :=
  ∀ (s : State) (l : Located) (k : Nat) (c : Word24) (m : Session), s.magazine.session = some m →
    s.locate l.record l.index = some l →
    let t := s.verify l k l.board.height c
    (s.elevator.homed = false ∨ m.type.nearest c = .between → InDoubt s t l m)
    ∧ (s.elevator.homed = true → m.type.nearest c = .slot k → StowedAt s t l m k)
    ∧ (∀ j, s.elevator.homed = true → m.type.nearest c = .slot j → j ≠ k →
        (m.runEmpty j l.board.height = false → InDoubt s t l m)
        ∧ (m.runEmpty j l.board.height = true → StowedElsewhere s t l m j))

/-- A seat sensor edge with fewer than two captures held appends the counter, and a settle wait ends by verification with
the older capture; with two held nothing is kept and CAPTURE_OVERFLOW is raised. The settle timer running out ends the
wait in doubt. MODEL'S CHOICE (log entry 8): the edge is taken whatever level the line held, and the level is then high;
(log entry 2): the timeout is taken whenever a wait runs, and without one it has no effect of its own. -/
abbrev Sys2Proof.Says.SeatEdgesAndTheSettleWait : Prop :=
  ∀ s : State, s.starting = false →
    (s.elevator.captures.length < 2 → s.insertion.wait = none →
      exec .seatSensorEdge s = .next (State.storeBegin { s with
        lines := { s.lines with seat := true }
        elevator := { s.elevator with captures := s.elevator.captures ++ [s.elevator.counter] } }))
    ∧ (∀ w l m, s.insertion.wait = some w → s.locateId w.board = some l → s.magazine.session = some m →
        (∀ c newer, s.elevator.captures ++ [s.elevator.counter] = c :: newer → s.elevator.captures.length < 2 →
          w.height = l.board.height → ∃ t, exec .seatSensorEdge s = .next t
          ∧ t.elevator = { s.elevator with captures := c :: newer } ∧ t.insertion.wait = none
          ∧ t.lines = { s.lines with seat := true }
          ∧ (s.elevator.homed = true → m.type.nearest c = .slot w.first → StowedAt s t l m w.first)
          ∧ (s.elevator.homed = false ∨ m.type.nearest c = .between → InDoubt s t l m)
          ∧ (∀ j, s.elevator.homed = true → m.type.nearest c = .slot j → j ≠ w.first →
              (m.runEmpty j l.board.height = false → InDoubt s t l m)
              ∧ (m.runEmpty j l.board.height = true → StowedElsewhere s t l m j)))
        ∧ (∃ t, exec .seatSettleTimeout s = .next t ∧ t.insertion.wait = none ∧ t.elevator = s.elevator
          ∧ InDoubt s t l m))
    ∧ (s.insertion.wait = none → exec .seatSettleTimeout s = .next s.storeBegin)
    ∧ (2 ≤ s.elevator.captures.length → ∃ t, exec .seatSensorEdge s = .next t ∧ t.elevator = s.elevator
        ∧ t.insertion = s.insertion ∧ t.panels = s.panels ∧ t.magazine = s.magazine
        ∧ ((s.fault .captureOverflow).enabled = true →
            (t.fault .captureOverflow).count = min 255 ((s.fault .captureOverflow).count + 1)
              ∧ t.isPending .cell .faultRaised = true))

/-- Verification of a seat, and the events that bring it about (the model's choices in it: log entries 2, 8 and 16). -/
def Obligations.SeatIsVerified : Prop :=
  Says.VerificationJudgesTheSeat ∧ Says.SeatEdgesAndTheSettleWait

/-- INSERT_BEGIN on the claimed board: its checks in their order; the board is INSERTING, the captures are discarded, and
the insertion is open with the disturbed flag clear. -/
abbrev Sys2Proof.Says.InsertBeginOpensAnInsertion : Prop :=
  ∀ (s : State) (p : Port) (serial : Word32) (b : Byte) (l : Located), s.Reaches p 62 →
    s.locateId { serial := serial.toNat, board := b.toNat } = some l → s.gripper.claim = some l.id →
    let i := Instr.insertBegin p serial b
    ((l.board.state ≠ .bound ∨ l.board.destination = some .reject ∨ l.board.destination = none) →
      Refuses i s p 62 .wrongState)
    ∧ ∀ k, l.board.state = .bound → l.board.destination = some (.slot k) →
      (s.insertion.permission = true ∨ s.insertion.wait.isSome = true → Refuses i s p 62 .busy)
      ∧ (s.insertion.permission = false → s.insertion.wait = none →
        (s.insertion.confirmation ≠ some k → Refuses i s p 62 .wrongState)
        ∧ (s.insertion.confirmation = some k → ∃ t,
            Answers i s t p 62 .accepted (BitVec.ofNat 8 k :: bytes24 s.elevator.counter)
            ∧ t.boardAt l.record l.index = some { l.board with state := .inserting }
            ∧ BoardsElsewhere s t l.record l.index ∧ t.elevator = { s.elevator with captures := [] }
            ∧ (let o : OpenInsertion := { board := l.id, first := k, height := l.board.height, disturbed := false }
               t.insertion = { s.insertion with insertion := some o })
            ∧ t.gripper = s.gripper ∧ t.magazine = s.magazine ∧ t.scheduler = s.scheduler ∧ t.cell = s.cell))

/-- INSERT_END: a board that is not INSERTING is refused. Aborted: the insertion is closed, the seat failure counted, and
the board BOUND again, or LOOSE if it was diverted (a second failure is Says.SecondFailureAtAnAbortedInsertion). Seated: the claim is empty and the board VERIFYING; a disturbed
insertion is in doubt, a held capture verifies, and without one a settle wait begins. -/
abbrev Sys2Proof.Says.InsertEndsCloseTheInsertion : Prop :=
  ∀ (s : State) (p : Port) (serial : Word32) (b : Byte) (l : Located), s.Reaches p 63 →
    s.locateId { serial := serial.toNat, board := b.toNat } = some l → s.gripper.claim = some l.id →
    let aborted := Instr.insertEndAborted p serial b
    let seated := Instr.insertEndSeated p serial b
    (l.board.state ≠ .inserting → Refuses aborted s p 63 .wrongState ∧ Refuses seated s p 63 .wrongState)
    ∧ ∀ k m x, l.board.state = .inserting → l.board.destination = some (.slot k) → s.magazine.session = some m →
      nth1 m.slots k = some x →
      (x.failures = 0 ∨ m.condemned = true →
        let n := min 2 (x.failures + 1)
        (l.board.divert = false → ∃ t, Answers aborted s t p 63 .accepted ([5, BitVec.ofNat 8 k] ++ n32 n)
          ∧ t.boardAt l.record l.index = some { l.board with state := .bound } ∧ BoardsElsewhere s t l.record l.index
          ∧ t.insertion = { s.insertion with insertion := none } ∧ t.elevator = s.elevator ∧ t.gripper = s.gripper
          ∧ (t.magazine.session.map (·.slots)) = some (m.setFailures k n).slots)
        ∧ (l.board.divert = true → ∃ t, Answers aborted s t p 63 .accepted ([4] ++ n32 n)
          ∧ t.boardAt l.record l.index = some { l.board with state := .loose, destination := none }
          ∧ BoardsElsewhere s t l.record l.index ∧ t.insertion = { s.insertion with insertion := none }
          ∧ t.isPending .pick .destinationReady = true ∧ t.gripper.claim = s.gripper.claim
          ∧ (t.magazine.session.map (·.slots)) = some ((m.setFailures k n).restate (.reserved l.id) .empty).slots))
      ∧ (∀ o, s.insertion.insertion = some o →
        let verifying : Located := { l with board := { l.board with state := .verifying } }
        ∃ t body, Answers seated s t p 63 .accepted body ∧ t.gripper.claim = none ∧ t.gripper.wait = none
          ∧ t.gripper.queue = s.gripper.queue ∧ t.insertion.insertion = none ∧ t.elevator = s.elevator
          ∧ t.insertion.permission = s.insertion.permission ∧ t.insertion.confirmation = s.insertion.confirmation
          ∧ (o.disturbed = true → t.insertion.wait = s.insertion.wait ∧ InDoubt s t verifying m)
          ∧ (o.disturbed = false → s.elevator.captures = [] → body = [7, 0]
              ∧ t.insertion.wait = some { board := l.id, first := k, height := l.board.height,
                                          timer := { ms := s.constants.seatSettle, us := 0 } }
              ∧ t.boardAt l.record l.index = some { l.board with state := .verifying }
              ∧ BoardsElsewhere s t l.record l.index ∧ t.magazine = s.magazine)
          ∧ (∀ c more, o.disturbed = false → s.elevator.captures = c :: more → t.insertion.wait = s.insertion.wait
              ∧ (s.elevator.homed = true → m.type.nearest c = .slot k →
                  body = [8, BitVec.ofNat 8 k] ∧ StowedAt s t l m k)
              ∧ (s.elevator.homed = false ∨ m.type.nearest c = .between → InDoubt s t verifying m)
              ∧ (∀ j, s.elevator.homed = true → m.type.nearest c = .slot j → j ≠ k →
                  (m.runEmpty j l.board.height = false → InDoubt s t verifying m)
                  ∧ (m.runEmpty j l.board.height = true →
                      body = [8, BitVec.ofNat 8 j] ∧ StowedElsewhere s t l m j))))

/-- INSERT_BEGIN and INSERT_END. -/
def Obligations.InsertionsOpenAndClose : Prop :=
  Says.InsertBeginOpensAnInsertion ∧ Says.InsertEndsCloseTheInsertion

/-! ### What a step leaves alone, block by block -/

/-- Commands that write the recipe table, the constants, the sampled levels, or the mark of the start-up read. -/
abbrev Sys2Proof.Says.InputsAndTablesChangeByTheirCommands : Prop :=
  ∀ (i : Instr) (s t : State), exec i s = .next t →
    t.pending = s.pending ∧ t.freeIndex = s.freeIndex
    ∧ (t.recipes ≠ s.recipes → match i with
        | .recipeOpen .. | .recipeBoard .. | .recipeTab .. | .recipeClose .. | .recipeErase .. | .powerOn | .pinReset => True
        | _ => False)
    ∧ (t.constants ≠ s.constants → match i with
        | .constantsWrite .. | .powerOn | .pinReset | .startUpReadEnd _ => True
        | _ => False)
    ∧ (t.lines ≠ s.lines → match i with
        | .encoderTransition .. | .illegalTransition | .referenceEdge | .seatSensorEdge | .guardOpens | .guardCloses
          | .startUpReadEnd _ => True
        | _ => False)
    ∧ (t.starting ≠ s.starting → match i with
        | .powerOn | .pinReset | .startUpReadEnd _ => True
        | _ => False)

/-- Commands that write the bit record and its override, the elevator unit, insertion control, the working register, the
tag counter, the hang limit, the claim, and the bin count. -/
abbrev Sys2Proof.Says.BlocksChangeByTheirCommands : Prop :=
  ∀ (i : Instr) (s t : State), exec i s = .next t → i.resets = false → i ≠ .powerOn →
    (t.bit ≠ s.bit → match i with
        | .cutDone .. | .cutAbort .. | .bitChange .. | .bitSetup .. | .setLimits .. => True
        | _ => False)
    ∧ (t.elevator ≠ s.elevator → match i with
        | .homeBegin _ | .insertBegin .. | .encoderTransition .. | .illegalTransition | .referenceEdge
          | .seatSensorEdge => True
        | _ => False)
    ∧ (t.insertion ≠ s.insertion → match i with
        | .homeBegin _ | .moveBegin _ | .arrived _ | .insertBegin .. | .insertEndAborted .. | .insertEndSeated ..
          | .magUnload _ | .encoderTransition .. | .illegalTransition | .referenceEdge | .seatSensorEdge
          | .seatSettleTimeout => True
        | _ => False)
    ∧ (t.magazine.register ≠ s.magazine.register → match i with
        | .magLoaded .. | .magUnload _ | .registerRepair .. | .insertEndAborted .. | .resolveSlot .. => True
        | _ => False)
    ∧ (t.scheduler.tag ≠ s.scheduler.tag → match i with
        | .nextCut _ => True
        | _ => False)
    ∧ (t.scheduler.hangLimit ≠ s.scheduler.hangLimit → match i with
        | .setLimits .. => True
        | _ => False)
    ∧ (t.gripper.claim ≠ s.gripper.claim → match i with
        | .claimNext _ | .claim .. | .release .. | .rejectPlaced .. | .insertEndSeated .. | .cutDone ..
          | .resolveTabCut .. | .panelAbort .. => True
        | _ => False)
    ∧ (t.magazine.binCount ≠ s.magazine.binCount → match i with
        | .rejectPlaced .. | .binEmptied _ => True
        | _ => False)

/-- FRAME, block by block: the commands that may change each. -/
def Obligations.BlocksChangeByTheirOwnCommands : Prop :=
  Says.InputsAndTablesChangeByTheirCommands ∧ Says.BlocksChangeByTheirCommands

/-! ### What every step keeps -/

/-- The duty is in range and 0 while the spindle rests, R stays in the speed range, the spindle constants in theirs. -/
def Obligations.EveryStepKeepsTheSpindleSafe : Prop := ∀ s t : State, SpindleSafe s → step s = .next t → SpindleSafe t

/-- The window holds at most two grants, and none is LIVE while the spindle rests. -/
def Obligations.EveryStepKeepsTheWindowSafe : Prop := ∀ s t : State, WindowSafe s → step s = .next t → WindowSafe t

/-- The hold set is empty in RUN and not in HOLD, and its member FAULT stands exactly while a kind holds. -/
def Obligations.EveryStepKeepsTheHoldsSafe : Prop := ∀ s t : State, HoldsSafe s → step s = .next t → HoldsSafe t

/-- A record names a VALID recipe, and serials and fixtures are not shared. -/
def Obligations.EveryStepKeepsThePanelsSafe : Prop := ∀ s t : State, PanelsSafe s → step s = .next t → PanelsSafe t

/-- The laws of the device keep each other: the claim and the queue name the boards their states say, the window's LIVE
grants are for HELD and CUTTING boards, the hang limit is not exceeded, the slots kept for boards are RESERVED or in DOUBT
for them, and a FILLED slot stands in the manifest. -/
def Obligations.EveryStepKeepsTheDeviceLaws : Prop := ∀ s t : State, DeviceSafe s → step s = .next t → DeviceSafe t

/-- No insertion is open while a move is permitted, HOMED and armed exclude each other, and at most two captures are
held. -/
abbrev Sys2Proof.Says.EveryStepKeepsTheHandshakeSafe : Prop :=
  ∀ s t : State, HandshakeSafe s → step s = .next t → HandshakeSafe t

/-- The worn flag follows W and Weol, a port holds kinds of its own only, the register is short and its tags distinct,
and a free store has no pending save. -/
abbrev Sys2Proof.Says.EveryStepKeepsBitPortsRegisterStore : Prop :=
  (∀ s t : State, BitSafe s → step s = .next t → BitSafe t) ∧ (∀ s t : State, PortsSafe s → step s = .next t → PortsSafe t)
    ∧ (∀ s t : State, RegisterSafe s → step s = .next t → RegisterSafe t)
    ∧ (∀ s t : State, StoreSafe s → step s = .next t → StoreSafe t)

/-- The smaller invariants of the part. -/
def Obligations.EveryStepKeepsTheSmallRelations : Prop :=
  Says.EveryStepKeepsTheHandshakeSafe ∧ Says.EveryStepKeepsBitPortsRegisterStore
end

