-- ==== Sys2Proof/Laws/State.lean ====
section
/-! SUPPORT. What each plain update of State leaves alone, field by field, true by rfl. -/

namespace Sys2Proof.Machine

@[simp] theorem State.modifyPort_frame (s : State) (p : Port) (f : PortState → PortState) :
    (s.modifyPort p f).recipes = s.recipes ∧ (s.modifyPort p f).panels = s.panels ∧
    (s.modifyPort p f).scheduler = s.scheduler ∧ (s.modifyPort p f).gripper = s.gripper ∧
    (s.modifyPort p f).bit = s.bit ∧ (s.modifyPort p f).spindle = s.spindle ∧
    (s.modifyPort p f).magazine = s.magazine ∧ (s.modifyPort p f).elevator = s.elevator ∧
    (s.modifyPort p f).insertion = s.insertion ∧ (s.modifyPort p f).cell = s.cell ∧
    (s.modifyPort p f).constants = s.constants ∧ (s.modifyPort p f).store = s.store ∧
    (s.modifyPort p f).lines = s.lines ∧ (s.modifyPort p f).starting = s.starting ∧
    (s.modifyPort p f).pending = s.pending ∧ (s.modifyPort p f).freeIndex = s.freeIndex :=
  by refine ⟨?_, ?_, ?_, ?_, ?_, ?_, ?_, ?_, ?_, ?_, ?_, ?_, ?_, ?_, ?_, ?_⟩ <;> rfl

@[simp] theorem State.post_frame (s : State) (p : Port) (k : EventKind) :
    (s.post p k).recipes = s.recipes ∧ (s.post p k).panels = s.panels ∧ (s.post p k).scheduler = s.scheduler ∧
    (s.post p k).gripper = s.gripper ∧ (s.post p k).bit = s.bit ∧ (s.post p k).spindle = s.spindle ∧
    (s.post p k).magazine = s.magazine ∧ (s.post p k).elevator = s.elevator ∧
    (s.post p k).insertion = s.insertion ∧ (s.post p k).cell = s.cell ∧ (s.post p k).constants = s.constants ∧
    (s.post p k).store = s.store ∧ (s.post p k).lines = s.lines ∧ (s.post p k).starting = s.starting ∧
    (s.post p k).pending = s.pending ∧ (s.post p k).freeIndex = s.freeIndex :=
  by refine ⟨?_, ?_, ?_, ?_, ?_, ?_, ?_, ?_, ?_, ?_, ?_, ?_, ?_, ?_, ?_, ?_⟩ <;> rfl

@[simp] theorem State.answer_frame (s : State) (p : Port) (c : Byte) (r : Reply) :
    (s.answer p c r).recipes = s.recipes ∧ (s.answer p c r).panels = s.panels ∧
    (s.answer p c r).scheduler = s.scheduler ∧ (s.answer p c r).gripper = s.gripper ∧
    (s.answer p c r).bit = s.bit ∧ (s.answer p c r).spindle = s.spindle ∧
    (s.answer p c r).magazine = s.magazine ∧ (s.answer p c r).elevator = s.elevator ∧
    (s.answer p c r).insertion = s.insertion ∧ (s.answer p c r).cell = s.cell ∧
    (s.answer p c r).constants = s.constants ∧ (s.answer p c r).store = s.store ∧
    (s.answer p c r).lines = s.lines ∧ (s.answer p c r).starting = s.starting ∧
    (s.answer p c r).pending = s.pending ∧ (s.answer p c r).freeIndex = s.freeIndex :=
  by refine ⟨?_, ?_, ?_, ?_, ?_, ?_, ?_, ?_, ?_, ?_, ?_, ?_, ?_, ?_, ?_, ?_⟩ <;> rfl

@[simp] theorem State.refuseAtPort_frame (s : State) (p : Port) (c : Byte) (r : RefusedReason) :
    (s.refuseAtPort p c r).recipes = s.recipes ∧ (s.refuseAtPort p c r).panels = s.panels ∧
    (s.refuseAtPort p c r).scheduler = s.scheduler ∧ (s.refuseAtPort p c r).gripper = s.gripper ∧
    (s.refuseAtPort p c r).bit = s.bit ∧ (s.refuseAtPort p c r).spindle = s.spindle ∧
    (s.refuseAtPort p c r).magazine = s.magazine ∧ (s.refuseAtPort p c r).elevator = s.elevator ∧
    (s.refuseAtPort p c r).insertion = s.insertion ∧ (s.refuseAtPort p c r).cell = s.cell ∧
    (s.refuseAtPort p c r).constants = s.constants ∧ (s.refuseAtPort p c r).store = s.store ∧
    (s.refuseAtPort p c r).lines = s.lines ∧ (s.refuseAtPort p c r).starting = s.starting ∧
    (s.refuseAtPort p c r).pending = s.pending ∧ (s.refuseAtPort p c r).freeIndex = s.freeIndex :=
  by refine ⟨?_, ?_, ?_, ?_, ?_, ?_, ?_, ?_, ?_, ?_, ?_, ?_, ?_, ?_, ?_, ?_⟩ <;> rfl

@[simp] theorem State.setPending_frame (s : State) (r : RecordId) (e : Bool) :
    (s.setPending r e).recipes = s.recipes ∧ (s.setPending r e).panels = s.panels ∧
    (s.setPending r e).scheduler = s.scheduler ∧ (s.setPending r e).gripper = s.gripper ∧
    (s.setPending r e).bit = s.bit ∧ (s.setPending r e).spindle = s.spindle ∧
    (s.setPending r e).magazine = s.magazine ∧ (s.setPending r e).elevator = s.elevator ∧
    (s.setPending r e).insertion = s.insertion ∧ (s.setPending r e).cell = s.cell ∧
    (s.setPending r e).ports = s.ports ∧ (s.setPending r e).constants = s.constants ∧
    (s.setPending r e).lines = s.lines ∧ (s.setPending r e).starting = s.starting ∧
    (s.setPending r e).pending = s.pending ∧ (s.setPending r e).freeIndex = s.freeIndex :=
  by refine ⟨?_, ?_, ?_, ?_, ?_, ?_, ?_, ?_, ?_, ?_, ?_, ?_, ?_, ?_, ?_, ?_⟩ <;> rfl

@[simp] theorem State.dropOldest_frame (s : State) :
    (s.dropOldest).recipes = s.recipes ∧ (s.dropOldest).panels = s.panels ∧ (s.dropOldest).gripper = s.gripper ∧
    (s.dropOldest).bit = s.bit ∧ (s.dropOldest).spindle = s.spindle ∧ (s.dropOldest).magazine = s.magazine ∧
    (s.dropOldest).elevator = s.elevator ∧ (s.dropOldest).insertion = s.insertion ∧
    (s.dropOldest).cell = s.cell ∧ (s.dropOldest).ports = s.ports ∧ (s.dropOldest).constants = s.constants ∧
    (s.dropOldest).store = s.store ∧ (s.dropOldest).lines = s.lines ∧ (s.dropOldest).starting = s.starting ∧
    (s.dropOldest).pending = s.pending ∧ (s.dropOldest).freeIndex = s.freeIndex :=
  by refine ⟨?_, ?_, ?_, ?_, ?_, ?_, ?_, ?_, ?_, ?_, ?_, ?_, ?_, ?_, ?_, ?_⟩ <;> rfl

@[simp] theorem State.enterHold_frame (s : State) :
    (s.enterHold).recipes = s.recipes ∧ (s.enterHold).panels = s.panels ∧ (s.enterHold).scheduler = s.scheduler ∧
    (s.enterHold).gripper = s.gripper ∧ (s.enterHold).bit = s.bit ∧ (s.enterHold).spindle = s.spindle ∧
    (s.enterHold).magazine = s.magazine ∧ (s.enterHold).elevator = s.elevator ∧
    (s.enterHold).insertion = s.insertion ∧ (s.enterHold).ports = s.ports ∧
    (s.enterHold).constants = s.constants ∧ (s.enterHold).store = s.store ∧ (s.enterHold).lines = s.lines ∧
    (s.enterHold).starting = s.starting ∧ (s.enterHold).pending = s.pending ∧
    (s.enterHold).freeIndex = s.freeIndex :=
  by refine ⟨?_, ?_, ?_, ?_, ?_, ?_, ?_, ?_, ?_, ?_, ?_, ?_, ?_, ?_, ?_, ?_⟩ <;> rfl

@[simp] theorem State.enterRun_frame (s : State) :
    (s.enterRun).recipes = s.recipes ∧ (s.enterRun).panels = s.panels ∧ (s.enterRun).scheduler = s.scheduler ∧
    (s.enterRun).gripper = s.gripper ∧ (s.enterRun).bit = s.bit ∧ (s.enterRun).spindle = s.spindle ∧
    (s.enterRun).magazine = s.magazine ∧ (s.enterRun).elevator = s.elevator ∧
    (s.enterRun).insertion = s.insertion ∧ (s.enterRun).ports = s.ports ∧ (s.enterRun).constants = s.constants ∧
    (s.enterRun).store = s.store ∧ (s.enterRun).lines = s.lines ∧ (s.enterRun).starting = s.starting ∧
    (s.enterRun).pending = s.pending ∧ (s.enterRun).freeIndex = s.freeIndex :=
  by refine ⟨?_, ?_, ?_, ?_, ?_, ?_, ?_, ?_, ?_, ?_, ?_, ?_, ?_, ?_, ?_, ?_⟩ <;> rfl

@[simp] theorem State.modifyFault_frame (s : State) (k : FaultKind) (f : FaultEntry → FaultEntry) :
    (s.modifyFault k f).recipes = s.recipes ∧ (s.modifyFault k f).panels = s.panels ∧
    (s.modifyFault k f).scheduler = s.scheduler ∧ (s.modifyFault k f).gripper = s.gripper ∧
    (s.modifyFault k f).bit = s.bit ∧ (s.modifyFault k f).spindle = s.spindle ∧
    (s.modifyFault k f).magazine = s.magazine ∧ (s.modifyFault k f).elevator = s.elevator ∧
    (s.modifyFault k f).insertion = s.insertion ∧ (s.modifyFault k f).ports = s.ports ∧
    (s.modifyFault k f).constants = s.constants ∧ (s.modifyFault k f).store = s.store ∧
    (s.modifyFault k f).lines = s.lines ∧ (s.modifyFault k f).starting = s.starting ∧
    (s.modifyFault k f).pending = s.pending ∧ (s.modifyFault k f).freeIndex = s.freeIndex :=
  by refine ⟨?_, ?_, ?_, ?_, ?_, ?_, ?_, ?_, ?_, ?_, ?_, ?_, ?_, ?_, ?_, ?_⟩ <;> rfl

@[simp] theorem State.countFault_frame (s : State) (k : FaultKind) :
    (s.countFault k).recipes = s.recipes ∧ (s.countFault k).panels = s.panels ∧
    (s.countFault k).scheduler = s.scheduler ∧ (s.countFault k).gripper = s.gripper ∧
    (s.countFault k).bit = s.bit ∧ (s.countFault k).spindle = s.spindle ∧
    (s.countFault k).magazine = s.magazine ∧ (s.countFault k).elevator = s.elevator ∧
    (s.countFault k).insertion = s.insertion ∧ (s.countFault k).constants = s.constants ∧
    (s.countFault k).store = s.store ∧ (s.countFault k).lines = s.lines ∧
    (s.countFault k).starting = s.starting ∧ (s.countFault k).pending = s.pending ∧
    (s.countFault k).freeIndex = s.freeIndex :=
  by refine ⟨?_, ?_, ?_, ?_, ?_, ?_, ?_, ?_, ?_, ?_, ?_, ?_, ?_, ?_, ?_⟩ <;> rfl

@[simp] theorem State.enterRamping_frame (s : State) :
    (s.enterRamping).recipes = s.recipes ∧ (s.enterRamping).panels = s.panels ∧
    (s.enterRamping).scheduler = s.scheduler ∧ (s.enterRamping).gripper = s.gripper ∧
    (s.enterRamping).bit = s.bit ∧ (s.enterRamping).magazine = s.magazine ∧
    (s.enterRamping).elevator = s.elevator ∧ (s.enterRamping).insertion = s.insertion ∧
    (s.enterRamping).cell = s.cell ∧ (s.enterRamping).ports = s.ports ∧
    (s.enterRamping).constants = s.constants ∧ (s.enterRamping).store = s.store ∧
    (s.enterRamping).lines = s.lines ∧ (s.enterRamping).starting = s.starting ∧
    (s.enterRamping).pending = s.pending ∧ (s.enterRamping).freeIndex = s.freeIndex :=
  by refine ⟨?_, ?_, ?_, ?_, ?_, ?_, ?_, ?_, ?_, ?_, ?_, ?_, ?_, ?_, ?_, ?_⟩ <;> rfl

@[simp] theorem State.setRecord_frame (s : State) (i : Fin 4) (p : Option Panel) :
    (s.setRecord i p).recipes = s.recipes ∧ (s.setRecord i p).scheduler = s.scheduler ∧
    (s.setRecord i p).gripper = s.gripper ∧ (s.setRecord i p).bit = s.bit ∧
    (s.setRecord i p).spindle = s.spindle ∧ (s.setRecord i p).magazine = s.magazine ∧
    (s.setRecord i p).elevator = s.elevator ∧ (s.setRecord i p).insertion = s.insertion ∧
    (s.setRecord i p).cell = s.cell ∧ (s.setRecord i p).ports = s.ports ∧
    (s.setRecord i p).constants = s.constants ∧ (s.setRecord i p).store = s.store ∧
    (s.setRecord i p).lines = s.lines ∧ (s.setRecord i p).starting = s.starting ∧
    (s.setRecord i p).pending = s.pending ∧ (s.setRecord i p).freeIndex = s.freeIndex :=
  by refine ⟨?_, ?_, ?_, ?_, ?_, ?_, ?_, ?_, ?_, ?_, ?_, ?_, ?_, ?_, ?_, ?_⟩ <;> rfl

@[simp] theorem State.modifyPanel_frame (s : State) (i : Fin 4) (f : Panel → Panel) :
    (s.modifyPanel i f).recipes = s.recipes ∧ (s.modifyPanel i f).scheduler = s.scheduler ∧
    (s.modifyPanel i f).gripper = s.gripper ∧ (s.modifyPanel i f).bit = s.bit ∧
    (s.modifyPanel i f).spindle = s.spindle ∧ (s.modifyPanel i f).magazine = s.magazine ∧
    (s.modifyPanel i f).elevator = s.elevator ∧ (s.modifyPanel i f).insertion = s.insertion ∧
    (s.modifyPanel i f).cell = s.cell ∧ (s.modifyPanel i f).ports = s.ports ∧
    (s.modifyPanel i f).constants = s.constants ∧ (s.modifyPanel i f).store = s.store ∧
    (s.modifyPanel i f).lines = s.lines ∧ (s.modifyPanel i f).starting = s.starting ∧
    (s.modifyPanel i f).pending = s.pending ∧ (s.modifyPanel i f).freeIndex = s.freeIndex :=
  by refine ⟨?_, ?_, ?_, ?_, ?_, ?_, ?_, ?_, ?_, ?_, ?_, ?_, ?_, ?_, ?_, ?_⟩ <;> rfl

@[simp] theorem State.modifyBoard_frame (s : State) (i : Fin 4) (b : Nat) (f : Board → Board) :
    (s.modifyBoard i b f).recipes = s.recipes ∧ (s.modifyBoard i b f).scheduler = s.scheduler ∧
    (s.modifyBoard i b f).gripper = s.gripper ∧ (s.modifyBoard i b f).bit = s.bit ∧
    (s.modifyBoard i b f).spindle = s.spindle ∧ (s.modifyBoard i b f).magazine = s.magazine ∧
    (s.modifyBoard i b f).elevator = s.elevator ∧ (s.modifyBoard i b f).insertion = s.insertion ∧
    (s.modifyBoard i b f).cell = s.cell ∧ (s.modifyBoard i b f).ports = s.ports ∧
    (s.modifyBoard i b f).constants = s.constants ∧ (s.modifyBoard i b f).store = s.store ∧
    (s.modifyBoard i b f).lines = s.lines ∧ (s.modifyBoard i b f).starting = s.starting ∧
    (s.modifyBoard i b f).pending = s.pending ∧ (s.modifyBoard i b f).freeIndex = s.freeIndex :=
  by refine ⟨?_, ?_, ?_, ?_, ?_, ?_, ?_, ?_, ?_, ?_, ?_, ?_, ?_, ?_, ?_, ?_⟩ <;> rfl

@[simp] theorem State.hang_frame (s : State) (id : BoardId) :
    (s.hang id).recipes = s.recipes ∧ (s.hang id).panels = s.panels ∧ (s.hang id).scheduler = s.scheduler ∧
    (s.hang id).bit = s.bit ∧ (s.hang id).spindle = s.spindle ∧ (s.hang id).magazine = s.magazine ∧
    (s.hang id).elevator = s.elevator ∧ (s.hang id).insertion = s.insertion ∧ (s.hang id).cell = s.cell ∧
    (s.hang id).constants = s.constants ∧ (s.hang id).store = s.store ∧ (s.hang id).lines = s.lines ∧
    (s.hang id).starting = s.starting ∧ (s.hang id).pending = s.pending ∧ (s.hang id).freeIndex = s.freeIndex :=
  by refine ⟨?_, ?_, ?_, ?_, ?_, ?_, ?_, ?_, ?_, ?_, ?_, ?_, ?_, ?_, ?_⟩ <;> rfl

@[simp] theorem State.unqueue_frame (s : State) (id : BoardId) :
    (s.unqueue id).recipes = s.recipes ∧ (s.unqueue id).panels = s.panels ∧
    (s.unqueue id).scheduler = s.scheduler ∧ (s.unqueue id).bit = s.bit ∧ (s.unqueue id).spindle = s.spindle ∧
    (s.unqueue id).magazine = s.magazine ∧ (s.unqueue id).elevator = s.elevator ∧
    (s.unqueue id).insertion = s.insertion ∧ (s.unqueue id).cell = s.cell ∧ (s.unqueue id).ports = s.ports ∧
    (s.unqueue id).constants = s.constants ∧ (s.unqueue id).store = s.store ∧ (s.unqueue id).lines = s.lines ∧
    (s.unqueue id).starting = s.starting ∧ (s.unqueue id).pending = s.pending ∧
    (s.unqueue id).freeIndex = s.freeIndex :=
  by refine ⟨?_, ?_, ?_, ?_, ?_, ?_, ?_, ?_, ?_, ?_, ?_, ?_, ?_, ?_, ?_, ?_⟩ <;> rfl

@[simp] theorem State.emptyClaim_frame (s : State) :
    (s.emptyClaim).recipes = s.recipes ∧ (s.emptyClaim).panels = s.panels ∧
    (s.emptyClaim).scheduler = s.scheduler ∧ (s.emptyClaim).bit = s.bit ∧ (s.emptyClaim).spindle = s.spindle ∧
    (s.emptyClaim).magazine = s.magazine ∧ (s.emptyClaim).elevator = s.elevator ∧
    (s.emptyClaim).insertion = s.insertion ∧ (s.emptyClaim).cell = s.cell ∧ (s.emptyClaim).ports = s.ports ∧
    (s.emptyClaim).constants = s.constants ∧ (s.emptyClaim).store = s.store ∧ (s.emptyClaim).lines = s.lines ∧
    (s.emptyClaim).starting = s.starting ∧ (s.emptyClaim).pending = s.pending ∧
    (s.emptyClaim).freeIndex = s.freeIndex :=
  by refine ⟨?_, ?_, ?_, ?_, ?_, ?_, ?_, ?_, ?_, ?_, ?_, ?_, ?_, ?_, ?_, ?_⟩ <;> rfl

@[simp] theorem State.modifySession_frame (s : State) (f : Session → Session) :
    (s.modifySession f).recipes = s.recipes ∧ (s.modifySession f).panels = s.panels ∧
    (s.modifySession f).scheduler = s.scheduler ∧ (s.modifySession f).gripper = s.gripper ∧
    (s.modifySession f).bit = s.bit ∧ (s.modifySession f).spindle = s.spindle ∧
    (s.modifySession f).elevator = s.elevator ∧ (s.modifySession f).insertion = s.insertion ∧
    (s.modifySession f).cell = s.cell ∧ (s.modifySession f).ports = s.ports ∧
    (s.modifySession f).constants = s.constants ∧ (s.modifySession f).store = s.store ∧
    (s.modifySession f).lines = s.lines ∧ (s.modifySession f).starting = s.starting ∧
    (s.modifySession f).pending = s.pending ∧ (s.modifySession f).freeIndex = s.freeIndex :=
  by refine ⟨?_, ?_, ?_, ?_, ?_, ?_, ?_, ?_, ?_, ?_, ?_, ?_, ?_, ?_, ?_, ?_⟩ <;> rfl

@[simp] theorem State.markFull_frame (s : State) (h : Nat) :
    (s.markFull h).recipes = s.recipes ∧ (s.markFull h).panels = s.panels ∧
    (s.markFull h).scheduler = s.scheduler ∧ (s.markFull h).gripper = s.gripper ∧ (s.markFull h).bit = s.bit ∧
    (s.markFull h).spindle = s.spindle ∧ (s.markFull h).elevator = s.elevator ∧
    (s.markFull h).insertion = s.insertion ∧ (s.markFull h).cell = s.cell ∧
    (s.markFull h).constants = s.constants ∧ (s.markFull h).store = s.store ∧ (s.markFull h).lines = s.lines ∧
    (s.markFull h).starting = s.starting ∧ (s.markFull h).pending = s.pending ∧
    (s.markFull h).freeIndex = s.freeIndex :=
  by refine ⟨?_, ?_, ?_, ?_, ?_, ?_, ?_, ?_, ?_, ?_, ?_, ?_, ?_, ?_, ?_⟩ <;> rfl

@[simp] theorem State.setDestination_frame (s : State) (i : Fin 4) (b : Nat) (d : Option Destination) :
    (s.setDestination i b d).recipes = s.recipes ∧ (s.setDestination i b d).scheduler = s.scheduler ∧
    (s.setDestination i b d).gripper = s.gripper ∧ (s.setDestination i b d).bit = s.bit ∧
    (s.setDestination i b d).spindle = s.spindle ∧ (s.setDestination i b d).magazine = s.magazine ∧
    (s.setDestination i b d).elevator = s.elevator ∧ (s.setDestination i b d).insertion = s.insertion ∧
    (s.setDestination i b d).cell = s.cell ∧ (s.setDestination i b d).ports = s.ports ∧
    (s.setDestination i b d).constants = s.constants ∧ (s.setDestination i b d).store = s.store ∧
    (s.setDestination i b d).lines = s.lines ∧ (s.setDestination i b d).starting = s.starting ∧
    (s.setDestination i b d).pending = s.pending ∧ (s.setDestination i b d).freeIndex = s.freeIndex :=
  by refine ⟨?_, ?_, ?_, ?_, ?_, ?_, ?_, ?_, ?_, ?_, ?_, ?_, ?_, ?_, ?_, ?_⟩ <;> rfl

@[simp] theorem State.release_frame (s : State) (l : Located) :
    (s.release l).recipes = s.recipes ∧ (s.release l).scheduler = s.scheduler ∧
    (s.release l).gripper = s.gripper ∧ (s.release l).bit = s.bit ∧ (s.release l).spindle = s.spindle ∧
    (s.release l).elevator = s.elevator ∧ (s.release l).insertion = s.insertion ∧ (s.release l).cell = s.cell ∧
    (s.release l).ports = s.ports ∧ (s.release l).constants = s.constants ∧ (s.release l).store = s.store ∧
    (s.release l).lines = s.lines ∧ (s.release l).starting = s.starting ∧ (s.release l).pending = s.pending ∧
    (s.release l).freeIndex = s.freeIndex :=
  by refine ⟨?_, ?_, ?_, ?_, ?_, ?_, ?_, ?_, ?_, ?_, ?_, ?_, ?_, ?_, ?_⟩ <;> rfl

@[simp] theorem State.setWait_frame (s : State) (w : Option DestinationWait) :
    (s.setWait w).recipes = s.recipes ∧ (s.setWait w).panels = s.panels ∧ (s.setWait w).scheduler = s.scheduler ∧
    (s.setWait w).bit = s.bit ∧ (s.setWait w).spindle = s.spindle ∧ (s.setWait w).magazine = s.magazine ∧
    (s.setWait w).elevator = s.elevator ∧ (s.setWait w).insertion = s.insertion ∧ (s.setWait w).cell = s.cell ∧
    (s.setWait w).ports = s.ports ∧ (s.setWait w).constants = s.constants ∧ (s.setWait w).store = s.store ∧
    (s.setWait w).lines = s.lines ∧ (s.setWait w).starting = s.starting ∧ (s.setWait w).pending = s.pending ∧
    (s.setWait w).freeIndex = s.freeIndex :=
  by refine ⟨?_, ?_, ?_, ?_, ?_, ?_, ?_, ?_, ?_, ?_, ?_, ?_, ?_, ?_, ?_, ?_⟩ <;> rfl

@[simp] theorem State.setRecipe_frame (s : State) (i : Fin 4) (x : RecipeSlot) :
    (s.setRecipe i x).panels = s.panels ∧ (s.setRecipe i x).scheduler = s.scheduler ∧
    (s.setRecipe i x).gripper = s.gripper ∧ (s.setRecipe i x).bit = s.bit ∧
    (s.setRecipe i x).spindle = s.spindle ∧ (s.setRecipe i x).magazine = s.magazine ∧
    (s.setRecipe i x).elevator = s.elevator ∧ (s.setRecipe i x).insertion = s.insertion ∧
    (s.setRecipe i x).cell = s.cell ∧ (s.setRecipe i x).ports = s.ports ∧
    (s.setRecipe i x).constants = s.constants ∧ (s.setRecipe i x).store = s.store ∧
    (s.setRecipe i x).lines = s.lines ∧ (s.setRecipe i x).starting = s.starting ∧
    (s.setRecipe i x).pending = s.pending ∧ (s.setRecipe i x).freeIndex = s.freeIndex :=
  by refine ⟨?_, ?_, ?_, ?_, ?_, ?_, ?_, ?_, ?_, ?_, ?_, ?_, ?_, ?_, ?_, ?_⟩ <;> rfl

@[simp] theorem State.closeInsertion_frame (s : State) :
    (s.closeInsertion).recipes = s.recipes ∧ (s.closeInsertion).panels = s.panels ∧
    (s.closeInsertion).scheduler = s.scheduler ∧ (s.closeInsertion).gripper = s.gripper ∧
    (s.closeInsertion).bit = s.bit ∧ (s.closeInsertion).spindle = s.spindle ∧
    (s.closeInsertion).magazine = s.magazine ∧ (s.closeInsertion).elevator = s.elevator ∧
    (s.closeInsertion).cell = s.cell ∧ (s.closeInsertion).ports = s.ports ∧
    (s.closeInsertion).constants = s.constants ∧ (s.closeInsertion).store = s.store ∧
    (s.closeInsertion).lines = s.lines ∧ (s.closeInsertion).starting = s.starting ∧
    (s.closeInsertion).pending = s.pending ∧ (s.closeInsertion).freeIndex = s.freeIndex :=
  by refine ⟨?_, ?_, ?_, ?_, ?_, ?_, ?_, ?_, ?_, ?_, ?_, ?_, ?_, ?_, ?_, ?_⟩ <;> rfl

@[simp] theorem State.setEncoder_frame (s : State) (a b : Bool) :
    (s.setEncoder a b).recipes = s.recipes ∧ (s.setEncoder a b).panels = s.panels ∧
    (s.setEncoder a b).scheduler = s.scheduler ∧ (s.setEncoder a b).gripper = s.gripper ∧
    (s.setEncoder a b).bit = s.bit ∧ (s.setEncoder a b).spindle = s.spindle ∧
    (s.setEncoder a b).magazine = s.magazine ∧ (s.setEncoder a b).elevator = s.elevator ∧
    (s.setEncoder a b).insertion = s.insertion ∧ (s.setEncoder a b).cell = s.cell ∧
    (s.setEncoder a b).ports = s.ports ∧ (s.setEncoder a b).constants = s.constants ∧
    (s.setEncoder a b).store = s.store ∧ (s.setEncoder a b).starting = s.starting ∧
    (s.setEncoder a b).pending = s.pending ∧ (s.setEncoder a b).freeIndex = s.freeIndex :=
  by refine ⟨?_, ?_, ?_, ?_, ?_, ?_, ?_, ?_, ?_, ?_, ?_, ?_, ?_, ?_, ?_, ?_⟩ <;> rfl

@[simp] theorem State.mapPorts_frame (s : State) (f : PortState → Port → PortState) :
    (s.mapPorts f).recipes = s.recipes ∧ (s.mapPorts f).panels = s.panels ∧
    (s.mapPorts f).scheduler = s.scheduler ∧ (s.mapPorts f).gripper = s.gripper ∧ (s.mapPorts f).bit = s.bit ∧
    (s.mapPorts f).spindle = s.spindle ∧ (s.mapPorts f).magazine = s.magazine ∧
    (s.mapPorts f).elevator = s.elevator ∧ (s.mapPorts f).insertion = s.insertion ∧
    (s.mapPorts f).cell = s.cell ∧ (s.mapPorts f).constants = s.constants ∧ (s.mapPorts f).store = s.store ∧
    (s.mapPorts f).lines = s.lines ∧ (s.mapPorts f).starting = s.starting ∧ (s.mapPorts f).pending = s.pending ∧
    (s.mapPorts f).freeIndex = s.freeIndex :=
  by refine ⟨?_, ?_, ?_, ?_, ?_, ?_, ?_, ?_, ?_, ?_, ?_, ?_, ?_, ?_, ?_, ?_⟩ <;> rfl

@[simp] theorem State.defaultLimits_frame (s : State) :
    (s.defaultLimits).recipes = s.recipes ∧ (s.defaultLimits).panels = s.panels ∧
    (s.defaultLimits).gripper = s.gripper ∧ (s.defaultLimits).bit = s.bit ∧
    (s.defaultLimits).spindle = s.spindle ∧ (s.defaultLimits).elevator = s.elevator ∧
    (s.defaultLimits).insertion = s.insertion ∧ (s.defaultLimits).cell = s.cell ∧
    (s.defaultLimits).ports = s.ports ∧ (s.defaultLimits).constants = s.constants ∧
    (s.defaultLimits).store = s.store ∧ (s.defaultLimits).lines = s.lines ∧
    (s.defaultLimits).starting = s.starting ∧ (s.defaultLimits).pending = s.pending ∧
    (s.defaultLimits).freeIndex = s.freeIndex :=
  by refine ⟨?_, ?_, ?_, ?_, ?_, ?_, ?_, ?_, ?_, ?_, ?_, ?_, ?_, ?_, ?_⟩ <;> rfl

@[simp] theorem State.emptyBlocks_frame (s : State) :
    (s.emptyBlocks).recipes = s.recipes ∧ (s.emptyBlocks).ports = s.ports ∧
    (s.emptyBlocks).constants = s.constants ∧ (s.emptyBlocks).store = s.store ∧ (s.emptyBlocks).lines = s.lines ∧
    (s.emptyBlocks).starting = s.starting ∧ (s.emptyBlocks).pending = s.pending ∧
    (s.emptyBlocks).freeIndex = s.freeIndex :=
  by refine ⟨?_, ?_, ?_, ?_, ?_, ?_, ?_, ?_⟩ <;> rfl

/-- The state a port takes is the one a later look finds, and the others keep theirs. -/
@[simp] theorem Ports.get_set (ps : Ports) (p q : Port) (v : PortState) :
    (ps.set p v).get q = if q = p then v else ps.get q := by cases p <;> cases q <;> rfl

@[simp] theorem State.port_modifyPort (s : State) (p q : Port) (f : PortState → PortState) :
    (s.modifyPort p f).port q = if q = p then f (s.port p) else s.port q := by
  simp [State.port, State.modifyPort]

end Sys2Proof.Machine
end

