-- ==== Sys2Proof/Laws/Ops.lean ====
section
/-! SUPPORT. What each shared operation leaves alone: the whole list of the fields it never changes. -/

namespace Sys2Proof.Machine

@[simp] theorem State.queueSave_frame (s : State) (r : RecordId) :
    (s.queueSave r).recipes = s.recipes ∧ (s.queueSave r).panels = s.panels ∧
    (s.queueSave r).scheduler = s.scheduler ∧ (s.queueSave r).gripper = s.gripper ∧ (s.queueSave r).bit = s.bit ∧
    (s.queueSave r).spindle = s.spindle ∧ (s.queueSave r).magazine = s.magazine ∧
    (s.queueSave r).elevator = s.elevator ∧ (s.queueSave r).insertion = s.insertion ∧
    (s.queueSave r).cell = s.cell ∧ (s.queueSave r).ports = s.ports ∧ (s.queueSave r).constants = s.constants ∧
    (s.queueSave r).lines = s.lines ∧ (s.queueSave r).starting = s.starting ∧
    (s.queueSave r).pending = s.pending ∧ (s.queueSave r).freeIndex = s.freeIndex :=
  by unfold State.queueSave; (try dsimp only); (repeat' split) <;> simp

@[simp] theorem State.writeContents_frame (s : State) (r : RecordId) :
    (s.writeContents r).recipes = s.recipes ∧ (s.writeContents r).panels = s.panels ∧
    (s.writeContents r).scheduler = s.scheduler ∧ (s.writeContents r).gripper = s.gripper ∧
    (s.writeContents r).bit = s.bit ∧ (s.writeContents r).spindle = s.spindle ∧
    (s.writeContents r).magazine = s.magazine ∧ (s.writeContents r).elevator = s.elevator ∧
    (s.writeContents r).insertion = s.insertion ∧ (s.writeContents r).cell = s.cell ∧
    (s.writeContents r).ports = s.ports ∧ (s.writeContents r).constants = s.constants ∧
    (s.writeContents r).lines = s.lines ∧ (s.writeContents r).starting = s.starting ∧
    (s.writeContents r).pending = s.pending ∧ (s.writeContents r).freeIndex = s.freeIndex :=
  by unfold State.writeContents; (try dsimp only); (repeat' split) <;> simp

@[simp] theorem State.storeBegin_frame (s : State) :
    (s.storeBegin).recipes = s.recipes ∧ (s.storeBegin).panels = s.panels ∧
    (s.storeBegin).scheduler = s.scheduler ∧ (s.storeBegin).gripper = s.gripper ∧ (s.storeBegin).bit = s.bit ∧
    (s.storeBegin).spindle = s.spindle ∧ (s.storeBegin).magazine = s.magazine ∧
    (s.storeBegin).elevator = s.elevator ∧ (s.storeBegin).insertion = s.insertion ∧
    (s.storeBegin).cell = s.cell ∧ (s.storeBegin).ports = s.ports ∧ (s.storeBegin).constants = s.constants ∧
    (s.storeBegin).lines = s.lines ∧ (s.storeBegin).starting = s.starting ∧ (s.storeBegin).pending = s.pending ∧
    (s.storeBegin).freeIndex = s.freeIndex :=
  by unfold State.storeBegin; (try dsimp only); (repeat' split) <;> simp

@[simp] theorem State.postIf_frame (s : State) (b : Bool) (p : Port) (k : EventKind) :
    (s.postIf b p k).recipes = s.recipes ∧ (s.postIf b p k).panels = s.panels ∧
    (s.postIf b p k).scheduler = s.scheduler ∧ (s.postIf b p k).gripper = s.gripper ∧
    (s.postIf b p k).bit = s.bit ∧ (s.postIf b p k).spindle = s.spindle ∧
    (s.postIf b p k).magazine = s.magazine ∧ (s.postIf b p k).elevator = s.elevator ∧
    (s.postIf b p k).insertion = s.insertion ∧ (s.postIf b p k).cell = s.cell ∧
    (s.postIf b p k).constants = s.constants ∧ (s.postIf b p k).store = s.store ∧
    (s.postIf b p k).lines = s.lines ∧ (s.postIf b p k).starting = s.starting ∧
    (s.postIf b p k).pending = s.pending ∧ (s.postIf b p k).freeIndex = s.freeIndex :=
  by unfold State.postIf; (try dsimp only); (repeat' split) <;> simp

@[simp] theorem State.revoke_frame (s : State) (t : Grant → Bool) :
    (s.revoke t).recipes = s.recipes ∧ (s.revoke t).panels = s.panels ∧ (s.revoke t).gripper = s.gripper ∧
    (s.revoke t).bit = s.bit ∧ (s.revoke t).spindle = s.spindle ∧ (s.revoke t).magazine = s.magazine ∧
    (s.revoke t).elevator = s.elevator ∧ (s.revoke t).insertion = s.insertion ∧ (s.revoke t).cell = s.cell ∧
    (s.revoke t).constants = s.constants ∧ (s.revoke t).store = s.store ∧ (s.revoke t).lines = s.lines ∧
    (s.revoke t).starting = s.starting ∧ (s.revoke t).pending = s.pending ∧ (s.revoke t).freeIndex = s.freeIndex :=
  by unfold State.revoke; (try dsimp only); (repeat' split) <;> simp

@[simp] theorem State.revokeAll_frame (s : State) :
    (s.revokeAll).recipes = s.recipes ∧ (s.revokeAll).panels = s.panels ∧ (s.revokeAll).gripper = s.gripper ∧
    (s.revokeAll).bit = s.bit ∧ (s.revokeAll).spindle = s.spindle ∧ (s.revokeAll).magazine = s.magazine ∧
    (s.revokeAll).elevator = s.elevator ∧ (s.revokeAll).insertion = s.insertion ∧ (s.revokeAll).cell = s.cell ∧
    (s.revokeAll).constants = s.constants ∧ (s.revokeAll).store = s.store ∧ (s.revokeAll).lines = s.lines ∧
    (s.revokeAll).starting = s.starting ∧ (s.revokeAll).pending = s.pending ∧
    (s.revokeAll).freeIndex = s.freeIndex :=
  by unfold State.revokeAll; (try dsimp only); (repeat' split) <;> simp

@[simp] theorem State.stopSpindle_frame (s : State) :
    (s.stopSpindle).recipes = s.recipes ∧ (s.stopSpindle).panels = s.panels ∧
    (s.stopSpindle).gripper = s.gripper ∧ (s.stopSpindle).bit = s.bit ∧ (s.stopSpindle).magazine = s.magazine ∧
    (s.stopSpindle).elevator = s.elevator ∧ (s.stopSpindle).insertion = s.insertion ∧
    (s.stopSpindle).cell = s.cell ∧ (s.stopSpindle).constants = s.constants ∧ (s.stopSpindle).store = s.store ∧
    (s.stopSpindle).lines = s.lines ∧ (s.stopSpindle).starting = s.starting ∧
    (s.stopSpindle).pending = s.pending ∧ (s.stopSpindle).freeIndex = s.freeIndex :=
  by unfold State.stopSpindle; (try dsimp only); (repeat' split) <;> simp

@[simp] theorem State.enterPark_frame (s : State) :
    (s.enterPark).recipes = s.recipes ∧ (s.enterPark).panels = s.panels ∧ (s.enterPark).gripper = s.gripper ∧
    (s.enterPark).bit = s.bit ∧ (s.enterPark).magazine = s.magazine ∧ (s.enterPark).elevator = s.elevator ∧
    (s.enterPark).insertion = s.insertion ∧ (s.enterPark).constants = s.constants ∧
    (s.enterPark).lines = s.lines ∧ (s.enterPark).starting = s.starting ∧ (s.enterPark).pending = s.pending ∧
    (s.enterPark).freeIndex = s.freeIndex :=
  by unfold State.enterPark; (try dsimp only); (repeat' split) <;> simp

@[simp] theorem State.enterStandby_frame (s : State) :
    (s.enterStandby).recipes = s.recipes ∧ (s.enterStandby).panels = s.panels ∧
    (s.enterStandby).gripper = s.gripper ∧ (s.enterStandby).bit = s.bit ∧
    (s.enterStandby).magazine = s.magazine ∧ (s.enterStandby).elevator = s.elevator ∧
    (s.enterStandby).insertion = s.insertion ∧ (s.enterStandby).constants = s.constants ∧
    (s.enterStandby).store = s.store ∧ (s.enterStandby).lines = s.lines ∧
    (s.enterStandby).starting = s.starting ∧ (s.enterStandby).pending = s.pending ∧
    (s.enterStandby).freeIndex = s.freeIndex :=
  by unfold State.enterStandby; (try dsimp only); (repeat' split) <;> simp

@[simp] theorem State.setHolds_frame (s : State) (h : HoldSet) :
    (s.setHolds h).recipes = s.recipes ∧ (s.setHolds h).panels = s.panels ∧
    (s.setHolds h).scheduler = s.scheduler ∧ (s.setHolds h).gripper = s.gripper ∧ (s.setHolds h).bit = s.bit ∧
    (s.setHolds h).spindle = s.spindle ∧ (s.setHolds h).magazine = s.magazine ∧
    (s.setHolds h).elevator = s.elevator ∧ (s.setHolds h).insertion = s.insertion ∧
    (s.setHolds h).ports = s.ports ∧ (s.setHolds h).constants = s.constants ∧ (s.setHolds h).store = s.store ∧
    (s.setHolds h).lines = s.lines ∧ (s.setHolds h).starting = s.starting ∧ (s.setHolds h).pending = s.pending ∧
    (s.setHolds h).freeIndex = s.freeIndex :=
  by unfold State.setHolds; (try dsimp only); (repeat' split) <;> simp

@[simp] theorem State.reevaluateFault_frame (s : State) :
    (s.reevaluateFault).recipes = s.recipes ∧ (s.reevaluateFault).panels = s.panels ∧
    (s.reevaluateFault).scheduler = s.scheduler ∧ (s.reevaluateFault).gripper = s.gripper ∧
    (s.reevaluateFault).bit = s.bit ∧ (s.reevaluateFault).spindle = s.spindle ∧
    (s.reevaluateFault).magazine = s.magazine ∧ (s.reevaluateFault).elevator = s.elevator ∧
    (s.reevaluateFault).insertion = s.insertion ∧ (s.reevaluateFault).ports = s.ports ∧
    (s.reevaluateFault).constants = s.constants ∧ (s.reevaluateFault).store = s.store ∧
    (s.reevaluateFault).lines = s.lines ∧ (s.reevaluateFault).starting = s.starting ∧
    (s.reevaluateFault).pending = s.pending ∧ (s.reevaluateFault).freeIndex = s.freeIndex :=
  by unfold State.reevaluateFault; (try dsimp only); (repeat' split) <;> simp

@[simp] theorem State.parkIfActive_frame (s : State) :
    (s.parkIfActive).recipes = s.recipes ∧ (s.parkIfActive).panels = s.panels ∧
    (s.parkIfActive).gripper = s.gripper ∧ (s.parkIfActive).bit = s.bit ∧
    (s.parkIfActive).magazine = s.magazine ∧ (s.parkIfActive).elevator = s.elevator ∧
    (s.parkIfActive).insertion = s.insertion ∧ (s.parkIfActive).constants = s.constants ∧
    (s.parkIfActive).lines = s.lines ∧ (s.parkIfActive).starting = s.starting ∧
    (s.parkIfActive).pending = s.pending ∧ (s.parkIfActive).freeIndex = s.freeIndex :=
  by unfold State.parkIfActive; (try dsimp only); (repeat' split) <;> simp

@[simp] theorem State.raise_frame (s : State) (k : FaultKind) :
    (s.raise k).recipes = s.recipes ∧ (s.raise k).panels = s.panels ∧ (s.raise k).gripper = s.gripper ∧
    (s.raise k).bit = s.bit ∧ (s.raise k).magazine = s.magazine ∧ (s.raise k).elevator = s.elevator ∧
    (s.raise k).insertion = s.insertion ∧ (s.raise k).constants = s.constants ∧ (s.raise k).lines = s.lines ∧
    (s.raise k).starting = s.starting ∧ (s.raise k).pending = s.pending ∧ (s.raise k).freeIndex = s.freeIndex :=
  by unfold State.raise; (try dsimp only); (repeat' split) <;> simp

@[simp] theorem State.endCondition_frame (s : State) (k : FaultKind) :
    (s.endCondition k).recipes = s.recipes ∧ (s.endCondition k).panels = s.panels ∧
    (s.endCondition k).scheduler = s.scheduler ∧ (s.endCondition k).gripper = s.gripper ∧
    (s.endCondition k).bit = s.bit ∧ (s.endCondition k).spindle = s.spindle ∧
    (s.endCondition k).magazine = s.magazine ∧ (s.endCondition k).elevator = s.elevator ∧
    (s.endCondition k).insertion = s.insertion ∧ (s.endCondition k).ports = s.ports ∧
    (s.endCondition k).constants = s.constants ∧ (s.endCondition k).store = s.store ∧
    (s.endCondition k).lines = s.lines ∧ (s.endCondition k).starting = s.starting ∧
    (s.endCondition k).pending = s.pending ∧ (s.endCondition k).freeIndex = s.freeIndex :=
  by unfold State.endCondition; (try dsimp only); (repeat' split) <;> simp

@[simp] theorem State.start_frame (s : State) :
    (s.start).recipes = s.recipes ∧ (s.start).panels = s.panels ∧ (s.start).scheduler = s.scheduler ∧
    (s.start).gripper = s.gripper ∧ (s.start).bit = s.bit ∧ (s.start).magazine = s.magazine ∧
    (s.start).elevator = s.elevator ∧ (s.start).insertion = s.insertion ∧ (s.start).cell = s.cell ∧
    (s.start).ports = s.ports ∧ (s.start).constants = s.constants ∧ (s.start).store = s.store ∧
    (s.start).lines = s.lines ∧ (s.start).starting = s.starting ∧ (s.start).pending = s.pending ∧
    (s.start).freeIndex = s.freeIndex :=
  by unfold State.start; (try dsimp only); (repeat' split) <;> simp

@[simp] theorem State.retarget_frame (s : State) (r o : Nat) :
    (s.retarget r o).recipes = s.recipes ∧ (s.retarget r o).panels = s.panels ∧
    (s.retarget r o).scheduler = s.scheduler ∧ (s.retarget r o).gripper = s.gripper ∧
    (s.retarget r o).bit = s.bit ∧ (s.retarget r o).magazine = s.magazine ∧
    (s.retarget r o).elevator = s.elevator ∧ (s.retarget r o).insertion = s.insertion ∧
    (s.retarget r o).cell = s.cell ∧ (s.retarget r o).ports = s.ports ∧
    (s.retarget r o).constants = s.constants ∧ (s.retarget r o).store = s.store ∧
    (s.retarget r o).lines = s.lines ∧ (s.retarget r o).starting = s.starting ∧
    (s.retarget r o).pending = s.pending ∧ (s.retarget r o).freeIndex = s.freeIndex :=
  by unfold State.retarget; (try dsimp only); (repeat' split) <;> simp

@[simp] theorem State.enterFaulted_frame (s : State) (c : SpindleCause) :
    (s.enterFaulted c).recipes = s.recipes ∧ (s.enterFaulted c).panels = s.panels ∧
    (s.enterFaulted c).gripper = s.gripper ∧ (s.enterFaulted c).bit = s.bit ∧
    (s.enterFaulted c).magazine = s.magazine ∧ (s.enterFaulted c).elevator = s.elevator ∧
    (s.enterFaulted c).insertion = s.insertion ∧ (s.enterFaulted c).constants = s.constants ∧
    (s.enterFaulted c).lines = s.lines ∧ (s.enterFaulted c).starting = s.starting ∧
    (s.enterFaulted c).pending = s.pending ∧ (s.enterFaulted c).freeIndex = s.freeIndex :=
  by unfold State.enterFaulted; (try dsimp only); (repeat' split) <;> simp

@[simp] theorem State.completeMeasurement_frame (s : State) (c : Nat) (b : Bool) :
    (s.completeMeasurement c b).recipes = s.recipes ∧ (s.completeMeasurement c b).panels = s.panels ∧
    (s.completeMeasurement c b).gripper = s.gripper ∧ (s.completeMeasurement c b).bit = s.bit ∧
    (s.completeMeasurement c b).magazine = s.magazine ∧ (s.completeMeasurement c b).elevator = s.elevator ∧
    (s.completeMeasurement c b).insertion = s.insertion ∧ (s.completeMeasurement c b).constants = s.constants ∧
    (s.completeMeasurement c b).lines = s.lines ∧ (s.completeMeasurement c b).starting = s.starting ∧
    (s.completeMeasurement c b).pending = s.pending ∧ (s.completeMeasurement c b).freeIndex = s.freeIndex :=
  by unfold State.completeMeasurement; (try dsimp only); (repeat' split) <;> simp

@[simp] theorem State.completeStall_frame (s : State) (c : Nat) :
    (s.completeStall c).recipes = s.recipes ∧ (s.completeStall c).panels = s.panels ∧
    (s.completeStall c).gripper = s.gripper ∧ (s.completeStall c).bit = s.bit ∧
    (s.completeStall c).magazine = s.magazine ∧ (s.completeStall c).elevator = s.elevator ∧
    (s.completeStall c).insertion = s.insertion ∧ (s.completeStall c).constants = s.constants ∧
    (s.completeStall c).lines = s.lines ∧ (s.completeStall c).starting = s.starting ∧
    (s.completeStall c).pending = s.pending ∧ (s.completeStall c).freeIndex = s.freeIndex :=
  by unfold State.completeStall; (try dsimp only); (repeat' split) <;> simp

@[simp] theorem State.edgeInMeasurement_frame (s : State) :
    (s.edgeInMeasurement).recipes = s.recipes ∧ (s.edgeInMeasurement).panels = s.panels ∧
    (s.edgeInMeasurement).gripper = s.gripper ∧ (s.edgeInMeasurement).bit = s.bit ∧
    (s.edgeInMeasurement).magazine = s.magazine ∧ (s.edgeInMeasurement).elevator = s.elevator ∧
    (s.edgeInMeasurement).insertion = s.insertion ∧ (s.edgeInMeasurement).constants = s.constants ∧
    (s.edgeInMeasurement).lines = s.lines ∧ (s.edgeInMeasurement).starting = s.starting ∧
    (s.edgeInMeasurement).pending = s.pending ∧ (s.edgeInMeasurement).freeIndex = s.freeIndex :=
  by unfold State.edgeInMeasurement; (try dsimp only); (repeat' split) <;> simp

@[simp] theorem State.advanceMeasurement_frame (s : State) (c : Nat) :
    (s.advanceMeasurement c).recipes = s.recipes ∧ (s.advanceMeasurement c).panels = s.panels ∧
    (s.advanceMeasurement c).gripper = s.gripper ∧ (s.advanceMeasurement c).bit = s.bit ∧
    (s.advanceMeasurement c).magazine = s.magazine ∧ (s.advanceMeasurement c).elevator = s.elevator ∧
    (s.advanceMeasurement c).insertion = s.insertion ∧ (s.advanceMeasurement c).constants = s.constants ∧
    (s.advanceMeasurement c).lines = s.lines ∧ (s.advanceMeasurement c).starting = s.starting ∧
    (s.advanceMeasurement c).pending = s.pending ∧ (s.advanceMeasurement c).freeIndex = s.freeIndex :=
  by unfold State.advanceMeasurement; (try dsimp only); (repeat' split) <;> simp

@[simp] theorem State.addWear_frame (s : State) (n : Nat) :
    (s.addWear n).recipes = s.recipes ∧ (s.addWear n).panels = s.panels ∧ (s.addWear n).gripper = s.gripper ∧
    (s.addWear n).magazine = s.magazine ∧ (s.addWear n).elevator = s.elevator ∧
    (s.addWear n).insertion = s.insertion ∧ (s.addWear n).constants = s.constants ∧
    (s.addWear n).lines = s.lines ∧ (s.addWear n).starting = s.starting ∧ (s.addWear n).pending = s.pending ∧
    (s.addWear n).freeIndex = s.freeIndex :=
  by unfold State.addWear; (try dsimp only); (repeat' split) <;> simp

@[simp] theorem State.reexamine_frame (s : State) (i : Fin 4) :
    (s.reexamine i).recipes = s.recipes ∧ (s.reexamine i).scheduler = s.scheduler ∧
    (s.reexamine i).gripper = s.gripper ∧ (s.reexamine i).bit = s.bit ∧ (s.reexamine i).spindle = s.spindle ∧
    (s.reexamine i).magazine = s.magazine ∧ (s.reexamine i).elevator = s.elevator ∧
    (s.reexamine i).insertion = s.insertion ∧ (s.reexamine i).cell = s.cell ∧
    (s.reexamine i).constants = s.constants ∧ (s.reexamine i).lines = s.lines ∧
    (s.reexamine i).starting = s.starting ∧ (s.reexamine i).pending = s.pending ∧
    (s.reexamine i).freeIndex = s.freeIndex :=
  by unfold State.reexamine; (try dsimp only); (repeat' split) <;> simp

@[simp] theorem State.moveBoard_frame (s : State) (i : Fin 4) (b : Nat) (st : BoardState) :
    (s.moveBoard i b st).recipes = s.recipes ∧ (s.moveBoard i b st).scheduler = s.scheduler ∧
    (s.moveBoard i b st).gripper = s.gripper ∧ (s.moveBoard i b st).bit = s.bit ∧
    (s.moveBoard i b st).spindle = s.spindle ∧ (s.moveBoard i b st).magazine = s.magazine ∧
    (s.moveBoard i b st).elevator = s.elevator ∧ (s.moveBoard i b st).insertion = s.insertion ∧
    (s.moveBoard i b st).cell = s.cell ∧ (s.moveBoard i b st).constants = s.constants ∧
    (s.moveBoard i b st).lines = s.lines ∧ (s.moveBoard i b st).starting = s.starting ∧
    (s.moveBoard i b st).pending = s.pending ∧ (s.moveBoard i b st).freeIndex = s.freeIndex :=
  by unfold State.moveBoard; (try dsimp only); (repeat' split) <;> simp

@[simp] theorem State.review_frame (s : State) (i : Fin 4) (b : Nat) :
    (s.review i b).recipes = s.recipes ∧ (s.review i b).scheduler = s.scheduler ∧
    (s.review i b).gripper = s.gripper ∧ (s.review i b).bit = s.bit ∧ (s.review i b).spindle = s.spindle ∧
    (s.review i b).magazine = s.magazine ∧ (s.review i b).elevator = s.elevator ∧
    (s.review i b).insertion = s.insertion ∧ (s.review i b).cell = s.cell ∧ (s.review i b).ports = s.ports ∧
    (s.review i b).constants = s.constants ∧ (s.review i b).store = s.store ∧ (s.review i b).lines = s.lines ∧
    (s.review i b).starting = s.starting ∧ (s.review i b).pending = s.pending ∧
    (s.review i b).freeIndex = s.freeIndex :=
  by unfold State.review; (try dsimp only); (repeat' split) <;> simp

@[simp] theorem State.setTab_frame (s : State) (i : Fin 4) (b t : Nat) (st : TabState) :
    (s.setTab i b t st).recipes = s.recipes ∧ (s.setTab i b t st).scheduler = s.scheduler ∧
    (s.setTab i b t st).gripper = s.gripper ∧ (s.setTab i b t st).bit = s.bit ∧
    (s.setTab i b t st).spindle = s.spindle ∧ (s.setTab i b t st).magazine = s.magazine ∧
    (s.setTab i b t st).elevator = s.elevator ∧ (s.setTab i b t st).insertion = s.insertion ∧
    (s.setTab i b t st).cell = s.cell ∧ (s.setTab i b t st).ports = s.ports ∧
    (s.setTab i b t st).constants = s.constants ∧ (s.setTab i b t st).store = s.store ∧
    (s.setTab i b t st).lines = s.lines ∧ (s.setTab i b t st).starting = s.starting ∧
    (s.setTab i b t st).pending = s.pending ∧ (s.setTab i b t st).freeIndex = s.freeIndex :=
  by unfold State.setTab; (try dsimp only); (repeat' split) <;> simp

@[simp] theorem State.dropBoard_frame (s : State) (l : Located) :
    (s.dropBoard l).recipes = s.recipes ∧ (s.dropBoard l).bit = s.bit ∧ (s.dropBoard l).magazine = s.magazine ∧
    (s.dropBoard l).elevator = s.elevator ∧ (s.dropBoard l).insertion = s.insertion ∧
    (s.dropBoard l).constants = s.constants ∧ (s.dropBoard l).lines = s.lines ∧
    (s.dropBoard l).starting = s.starting ∧ (s.dropBoard l).pending = s.pending ∧
    (s.dropBoard l).freeIndex = s.freeIndex :=
  by unfold State.dropBoard; (try dsimp only); (repeat' split) <;> simp

@[simp] theorem State.cutTab_frame (s : State) (l : Located) (t : Nat) :
    (s.cutTab l t).recipes = s.recipes ∧ (s.cutTab l t).bit = s.bit ∧ (s.cutTab l t).magazine = s.magazine ∧
    (s.cutTab l t).elevator = s.elevator ∧ (s.cutTab l t).insertion = s.insertion ∧
    (s.cutTab l t).constants = s.constants ∧ (s.cutTab l t).lines = s.lines ∧
    (s.cutTab l t).starting = s.starting ∧ (s.cutTab l t).pending = s.pending ∧
    (s.cutTab l t).freeIndex = s.freeIndex :=
  by unfold State.cutTab; (try dsimp only); (repeat' split) <;> simp

@[simp] theorem State.loosen_frame (s : State) (l : Located) :
    (s.loosen l).recipes = s.recipes ∧ (s.loosen l).scheduler = s.scheduler ∧ (s.loosen l).gripper = s.gripper ∧
    (s.loosen l).bit = s.bit ∧ (s.loosen l).spindle = s.spindle ∧ (s.loosen l).elevator = s.elevator ∧
    (s.loosen l).insertion = s.insertion ∧ (s.loosen l).cell = s.cell ∧ (s.loosen l).constants = s.constants ∧
    (s.loosen l).lines = s.lines ∧ (s.loosen l).starting = s.starting ∧ (s.loosen l).pending = s.pending ∧
    (s.loosen l).freeIndex = s.freeIndex :=
  by unfold State.loosen; (try dsimp only); (repeat' split) <;> simp

@[simp] theorem State.stow_frame (s : State) (l : Located) (j : Nat) :
    (s.stow l j).recipes = s.recipes ∧ (s.stow l j).scheduler = s.scheduler ∧ (s.stow l j).gripper = s.gripper ∧
    (s.stow l j).bit = s.bit ∧ (s.stow l j).spindle = s.spindle ∧ (s.stow l j).elevator = s.elevator ∧
    (s.stow l j).insertion = s.insertion ∧ (s.stow l j).cell = s.cell ∧ (s.stow l j).constants = s.constants ∧
    (s.stow l j).lines = s.lines ∧ (s.stow l j).starting = s.starting ∧ (s.stow l j).pending = s.pending ∧
    (s.stow l j).freeIndex = s.freeIndex :=
  by unfold State.stow; (try dsimp only); (repeat' split) <;> simp

@[simp] theorem State.doubt_frame (s : State) (l : Located) :
    (s.doubt l).recipes = s.recipes ∧ (s.doubt l).gripper = s.gripper ∧ (s.doubt l).bit = s.bit ∧
    (s.doubt l).elevator = s.elevator ∧ (s.doubt l).insertion = s.insertion ∧
    (s.doubt l).constants = s.constants ∧ (s.doubt l).lines = s.lines ∧ (s.doubt l).starting = s.starting ∧
    (s.doubt l).pending = s.pending ∧ (s.doubt l).freeIndex = s.freeIndex :=
  by unfold State.doubt; (try dsimp only); (repeat' split) <;> simp

@[simp] theorem State.setRegister_frame (s : State) (r : List RegisterEntry) :
    (s.setRegister r).recipes = s.recipes ∧ (s.setRegister r).panels = s.panels ∧
    (s.setRegister r).scheduler = s.scheduler ∧ (s.setRegister r).gripper = s.gripper ∧
    (s.setRegister r).bit = s.bit ∧ (s.setRegister r).spindle = s.spindle ∧
    (s.setRegister r).elevator = s.elevator ∧ (s.setRegister r).insertion = s.insertion ∧
    (s.setRegister r).cell = s.cell ∧ (s.setRegister r).ports = s.ports ∧
    (s.setRegister r).constants = s.constants ∧ (s.setRegister r).lines = s.lines ∧
    (s.setRegister r).starting = s.starting ∧ (s.setRegister r).pending = s.pending ∧
    (s.setRegister r).freeIndex = s.freeIndex :=
  by unfold State.setRegister; (try dsimp only); (repeat' split) <;> simp

@[simp] theorem State.modifyEntry_frame (s : State) (t : Nat) (f : RegisterEntry → RegisterEntry) :
    (s.modifyEntry t f).recipes = s.recipes ∧ (s.modifyEntry t f).panels = s.panels ∧
    (s.modifyEntry t f).scheduler = s.scheduler ∧ (s.modifyEntry t f).gripper = s.gripper ∧
    (s.modifyEntry t f).bit = s.bit ∧ (s.modifyEntry t f).spindle = s.spindle ∧
    (s.modifyEntry t f).elevator = s.elevator ∧ (s.modifyEntry t f).insertion = s.insertion ∧
    (s.modifyEntry t f).cell = s.cell ∧ (s.modifyEntry t f).ports = s.ports ∧
    (s.modifyEntry t f).constants = s.constants ∧ (s.modifyEntry t f).lines = s.lines ∧
    (s.modifyEntry t f).starting = s.starting ∧ (s.modifyEntry t f).pending = s.pending ∧
    (s.modifyEntry t f).freeIndex = s.freeIndex :=
  by unfold State.modifyEntry; (try dsimp only); (repeat' split) <;> simp

@[simp] theorem State.condemn_frame (s : State) (t : Nat) :
    (s.condemn t).recipes = s.recipes ∧ (s.condemn t).panels = s.panels ∧ (s.condemn t).gripper = s.gripper ∧
    (s.condemn t).bit = s.bit ∧ (s.condemn t).elevator = s.elevator ∧ (s.condemn t).insertion = s.insertion ∧
    (s.condemn t).constants = s.constants ∧ (s.condemn t).lines = s.lines ∧ (s.condemn t).starting = s.starting ∧
    (s.condemn t).pending = s.pending ∧ (s.condemn t).freeIndex = s.freeIndex :=
  by unfold State.condemn; (try dsimp only); (repeat' split) <;> simp

@[simp] theorem State.retire_frame (s : State) (t k : Nat) :
    (s.retire t k).recipes = s.recipes ∧ (s.retire t k).gripper = s.gripper ∧ (s.retire t k).bit = s.bit ∧
    (s.retire t k).elevator = s.elevator ∧ (s.retire t k).insertion = s.insertion ∧
    (s.retire t k).constants = s.constants ∧ (s.retire t k).lines = s.lines ∧
    (s.retire t k).starting = s.starting ∧ (s.retire t k).pending = s.pending ∧
    (s.retire t k).freeIndex = s.freeIndex :=
  by unfold State.retire; (try dsimp only); (repeat' split) <;> simp

@[simp] theorem State.seatFailure_frame (s : State) (k : Nat) :
    (s.seatFailure k).recipes = s.recipes ∧ (s.seatFailure k).gripper = s.gripper ∧
    (s.seatFailure k).bit = s.bit ∧ (s.seatFailure k).elevator = s.elevator ∧
    (s.seatFailure k).insertion = s.insertion ∧ (s.seatFailure k).constants = s.constants ∧
    (s.seatFailure k).lines = s.lines ∧ (s.seatFailure k).starting = s.starting ∧
    (s.seatFailure k).pending = s.pending ∧ (s.seatFailure k).freeIndex = s.freeIndex :=
  by unfold State.seatFailure; (try dsimp only); (repeat' split) <;> simp

@[simp] theorem State.withdraw_frame (s : State) :
    (s.withdraw).recipes = s.recipes ∧ (s.withdraw).panels = s.panels ∧ (s.withdraw).scheduler = s.scheduler ∧
    (s.withdraw).gripper = s.gripper ∧ (s.withdraw).bit = s.bit ∧ (s.withdraw).spindle = s.spindle ∧
    (s.withdraw).magazine = s.magazine ∧ (s.withdraw).elevator = s.elevator ∧ (s.withdraw).cell = s.cell ∧
    (s.withdraw).constants = s.constants ∧ (s.withdraw).store = s.store ∧ (s.withdraw).lines = s.lines ∧
    (s.withdraw).starting = s.starting ∧ (s.withdraw).pending = s.pending ∧ (s.withdraw).freeIndex = s.freeIndex :=
  by unfold State.withdraw; (try dsimp only); (repeat' split) <;> simp

@[simp] theorem State.disturb_frame (s : State) :
    (s.disturb).recipes = s.recipes ∧ (s.disturb).panels = s.panels ∧ (s.disturb).scheduler = s.scheduler ∧
    (s.disturb).gripper = s.gripper ∧ (s.disturb).bit = s.bit ∧ (s.disturb).spindle = s.spindle ∧
    (s.disturb).magazine = s.magazine ∧ (s.disturb).elevator = s.elevator ∧ (s.disturb).cell = s.cell ∧
    (s.disturb).constants = s.constants ∧ (s.disturb).store = s.store ∧ (s.disturb).lines = s.lines ∧
    (s.disturb).starting = s.starting ∧ (s.disturb).pending = s.pending ∧ (s.disturb).freeIndex = s.freeIndex :=
  by unfold State.disturb; (try dsimp only); (repeat' split) <;> simp

@[simp] theorem State.counterMoved_frame (s : State) :
    (s.counterMoved).recipes = s.recipes ∧ (s.counterMoved).panels = s.panels ∧
    (s.counterMoved).scheduler = s.scheduler ∧ (s.counterMoved).gripper = s.gripper ∧
    (s.counterMoved).bit = s.bit ∧ (s.counterMoved).spindle = s.spindle ∧
    (s.counterMoved).magazine = s.magazine ∧ (s.counterMoved).elevator = s.elevator ∧
    (s.counterMoved).cell = s.cell ∧ (s.counterMoved).constants = s.constants ∧
    (s.counterMoved).store = s.store ∧ (s.counterMoved).lines = s.lines ∧
    (s.counterMoved).starting = s.starting ∧ (s.counterMoved).pending = s.pending ∧
    (s.counterMoved).freeIndex = s.freeIndex :=
  by unfold State.counterMoved; (try dsimp only); (repeat' split) <;> simp

@[simp] theorem State.verify_frame (s : State) (l : Located) (k h : Nat) (c : Word24) :
    (s.verify l k h c).recipes = s.recipes ∧ (s.verify l k h c).gripper = s.gripper ∧
    (s.verify l k h c).bit = s.bit ∧ (s.verify l k h c).elevator = s.elevator ∧
    (s.verify l k h c).insertion = s.insertion ∧ (s.verify l k h c).constants = s.constants ∧
    (s.verify l k h c).lines = s.lines ∧ (s.verify l k h c).starting = s.starting ∧
    (s.verify l k h c).pending = s.pending ∧ (s.verify l k h c).freeIndex = s.freeIndex :=
  by unfold State.verify; (try dsimp only); (repeat' split) <;> simp

@[simp] theorem State.raiseWorn_frame (s : State) :
    (s.raiseWorn).recipes = s.recipes ∧ (s.raiseWorn).panels = s.panels ∧ (s.raiseWorn).gripper = s.gripper ∧
    (s.raiseWorn).bit = s.bit ∧ (s.raiseWorn).magazine = s.magazine ∧ (s.raiseWorn).elevator = s.elevator ∧
    (s.raiseWorn).insertion = s.insertion ∧ (s.raiseWorn).constants = s.constants ∧
    (s.raiseWorn).lines = s.lines ∧ (s.raiseWorn).starting = s.starting ∧ (s.raiseWorn).pending = s.pending ∧
    (s.raiseWorn).freeIndex = s.freeIndex :=
  by unfold State.raiseWorn; (try dsimp only); (repeat' split) <;> simp

@[simp] theorem State.refreshFull_frame (s : State) (b : State) :
    (b.refreshFull s).recipes = s.recipes ∧ (b.refreshFull s).panels = s.panels ∧
    (b.refreshFull s).scheduler = s.scheduler ∧ (b.refreshFull s).gripper = s.gripper ∧
    (b.refreshFull s).bit = s.bit ∧ (b.refreshFull s).spindle = s.spindle ∧
    (b.refreshFull s).elevator = s.elevator ∧ (b.refreshFull s).insertion = s.insertion ∧
    (b.refreshFull s).cell = s.cell ∧ (b.refreshFull s).constants = s.constants ∧
    (b.refreshFull s).store = s.store ∧ (b.refreshFull s).lines = s.lines ∧
    (b.refreshFull s).starting = s.starting ∧ (b.refreshFull s).pending = s.pending ∧
    (b.refreshFull s).freeIndex = s.freeIndex :=
  by unfold State.refreshFull; (repeat' split) <;> simp

@[simp] theorem State.refreshWait_frame (s : State) (b : State) :
    (b.refreshWait s).recipes = s.recipes ∧ (b.refreshWait s).panels = s.panels ∧
    (b.refreshWait s).scheduler = s.scheduler ∧ (b.refreshWait s).bit = s.bit ∧
    (b.refreshWait s).spindle = s.spindle ∧ (b.refreshWait s).magazine = s.magazine ∧
    (b.refreshWait s).elevator = s.elevator ∧ (b.refreshWait s).insertion = s.insertion ∧
    (b.refreshWait s).cell = s.cell ∧ (b.refreshWait s).constants = s.constants ∧
    (b.refreshWait s).store = s.store ∧ (b.refreshWait s).lines = s.lines ∧
    (b.refreshWait s).starting = s.starting ∧ (b.refreshWait s).pending = s.pending ∧
    (b.refreshWait s).freeIndex = s.freeIndex :=
  by unfold State.refreshWait; (repeat' split) <;> simp

@[simp] theorem State.handOver_frame (s : State) (b : State) :
    (b.handOver s).recipes = s.recipes ∧ (b.handOver s).panels = s.panels ∧
    (b.handOver s).scheduler = s.scheduler ∧ (b.handOver s).gripper = s.gripper ∧ (b.handOver s).bit = s.bit ∧
    (b.handOver s).magazine = s.magazine ∧ (b.handOver s).elevator = s.elevator ∧
    (b.handOver s).insertion = s.insertion ∧ (b.handOver s).cell = s.cell ∧ (b.handOver s).ports = s.ports ∧
    (b.handOver s).constants = s.constants ∧ (b.handOver s).store = s.store ∧ (b.handOver s).lines = s.lines ∧
    (b.handOver s).starting = s.starting ∧ (b.handOver s).pending = s.pending ∧
    (b.handOver s).freeIndex = s.freeIndex :=
  by unfold State.handOver; (repeat' split) <;> simp

@[simp] theorem State.announce_frame (s : State) (b : State) :
    (b.announce s).recipes = s.recipes ∧ (b.announce s).panels = s.panels ∧
    (b.announce s).scheduler = s.scheduler ∧ (b.announce s).gripper = s.gripper ∧ (b.announce s).bit = s.bit ∧
    (b.announce s).spindle = s.spindle ∧ (b.announce s).magazine = s.magazine ∧
    (b.announce s).elevator = s.elevator ∧ (b.announce s).insertion = s.insertion ∧
    (b.announce s).cell = s.cell ∧ (b.announce s).constants = s.constants ∧ (b.announce s).store = s.store ∧
    (b.announce s).lines = s.lines ∧ (b.announce s).starting = s.starting ∧ (b.announce s).pending = s.pending ∧
    (b.announce s).freeIndex = s.freeIndex :=
  by simp [State.announce]

@[simp] theorem commit_frame (s : State) (b : State) :
    (commit b s).recipes = s.recipes ∧ (commit b s).panels = s.panels ∧ (commit b s).scheduler = s.scheduler ∧
    (commit b s).bit = s.bit ∧ (commit b s).elevator = s.elevator ∧ (commit b s).insertion = s.insertion ∧
    (commit b s).cell = s.cell ∧ (commit b s).constants = s.constants ∧ (commit b s).lines = s.lines ∧
    (commit b s).starting = s.starting ∧ (commit b s).pending = s.pending ∧ (commit b s).freeIndex = s.freeIndex :=
  by simp [commit]

/-! ### The frames of requests and events -/

/-- A request on a port that may send it, with the part started and select not ignored, runs its handler. -/
theorem State.request_open (s : State) (p : Port) (code : Byte) (h : Handler)
    (line : (s.port p).line ≠ .ignored) (mine : allowed code p = true) (up : s.starting = false) :
    s.request p code h = (h s).1.answer p code (h s).2 := by
  simp [State.request, line, mine, up]

/-- A request on a port that may not send it is answered WRONG_PORT (R162). -/
theorem State.request_wrongPort (s : State) (p : Port) (code : Byte) (h : Handler)
    (line : (s.port p).line ≠ .ignored) (other : allowed code p = false) :
    s.request p code h = s.refuseAtPort p code .wrongPort := by
  simp [State.request, line, other]

/-- A request during the start-up read is answered STARTING (R162). -/
theorem State.request_starting (s : State) (p : Port) (code : Byte) (h : Handler)
    (line : (s.port p).line ≠ .ignored) (mine : allowed code p = true) (down : s.starting = true) :
    s.request p code h = s.refuseAtPort p code .starting := by
  simp [State.request, line, mine, down]

/-- A request whose bytes were ignored only ends the wait for select to rise (R167). -/
theorem State.request_ignored (s : State) (p : Port) (code : Byte) (h : Handler) (line : (s.port p).line = .ignored) :
    s.request p code h = s.modifyPort p fun v => { v with line := .idle } := by
  simp [State.request, line]

/-- An event with the part started runs and is committed. -/
theorem State.event_up (s : State) (f : State → State) (up : s.starting = false) : s.event f = commit s (f s) := by
  simp [State.event, up]

/-- An event during the start-up read has no effect (R173). -/
theorem State.event_starting (s : State) (f : State → State) (down : s.starting = true) : s.event f = s := by
  simp [State.event, down]

/-- A pending answer is not touched by a posting. -/
@[simp] theorem State.post_answer (s : State) (p q : Port) (k : EventKind) :
    ((s.post p k).port q).answer = (s.port q).answer ∧ ((s.post p k).port q).line = (s.port q).line
      ∧ ((s.post p k).port q).enabled = (s.port q).enabled := by
  by_cases h : q = p <;> simp [State.post, h]

/-- The answer to a request is the pending one of its port, and the transaction is over (R161). -/
@[simp] theorem State.port_answer (s : State) (p : Port) (c : Byte) (r : Reply) :
    ((s.answer p c r).port p).answer = some { echo := c, verdict := r.verdict, body := r.body }
      ∧ ((s.answer p c r).port p).line = .idle ∧ ((s.answer p c r).port p).events = (s.port p).events
      ∧ ((s.answer p c r).port p).enabled = (s.port p).enabled := by
  simp [State.answer]

end Sys2Proof.Machine
end

