-- ==== Sys2Proof/Laws/Commit.lean ====
section
/-! SUPPORT. What the end of a change leaves alone: the ports' answers always, and the blocks when nothing that is
re-examined has changed. -/

namespace Sys2Proof.Machine

/-- The part of a port that only its own requests change. -/
abbrev SameAnswering (s t : State) (p : Port) : Prop :=
  (t.port p).answer = (s.port p).answer ∧ (t.port p).line = (s.port p).line ∧ (t.port p).enabled = (s.port p).enabled

theorem State.port_of_ports {s t : State} (p : Port) (h : t.ports = s.ports) : t.port p = s.port p := by
  simp [State.port, h]

theorem SameAnswering.of_ports {s t : State} (p : Port) (h : t.ports = s.ports) : SameAnswering s t p := by
  simp [SameAnswering, State.port, h]

theorem SameAnswering.trans {s t u : State} {p : Port} (h : SameAnswering s t p) (k : SameAnswering t u p) :
    SameAnswering s u p :=
  ⟨k.1.trans h.1, k.2.1.trans h.2.1, k.2.2.trans h.2.2⟩

theorem State.post_answering (s : State) (p q : Port) (k : EventKind) : SameAnswering s (s.post p k) q :=
  State.post_answer s p q k

theorem State.postIf_answering (s : State) (b : Bool) (p q : Port) (k : EventKind) :
    SameAnswering s (s.postIf b p k) q := by
  unfold State.postIf; split
  · exact s.post_answering p q k
  · exact ⟨rfl, rfl, rfl⟩

theorem State.markFull_answering (s : State) (h : Nat) (q : Port) : SameAnswering s (s.markFull h) q :=
  (SameAnswering.of_ports q (by simp)).trans (State.post_answering _ _ q _)

theorem State.refreshFull_answering (b s : State) (q : Port) : SameAnswering s (b.refreshFull s) q := by
  unfold State.refreshFull
  repeat' split
  all_goals first
    | exact s.markFull_answering 1 q
    | exact SameAnswering.of_ports q (by simp)

theorem State.refreshWait_answering (b s : State) (q : Port) : SameAnswering s (b.refreshWait s) q := by
  unfold State.refreshWait
  split
  · exact (SameAnswering.of_ports (t := { s with gripper := { s.gripper with wait := none } }) q rfl).trans
      (State.post_answering _ _ q _)
  · exact ⟨rfl, rfl, rfl⟩

theorem State.announce_answering (b s : State) (q : Port) : SameAnswering s (b.announce s) q := by
  unfold State.announce
  exact (((s.postIf_answering _ _ q _).trans (State.postIf_answering _ _ _ q _)).trans
    (State.postIf_answering _ _ _ q _)).trans (State.postIf_answering _ _ _ q _)

theorem State.handOver_answering (b s : State) (q : Port) : SameAnswering s (b.handOver s) q :=
  SameAnswering.of_ports q (by simp)

theorem State.storeBegin_answering (s : State) (q : Port) : SameAnswering s s.storeBegin q :=
  SameAnswering.of_ports q (by simp)

/-- The end of a change touches no pending answer, no transaction and no enable set. -/
theorem commit_answering (b s : State) (q : Port) : SameAnswering s (commit b s) q :=
  ((((State.refreshFull_answering b s q).trans (State.refreshWait_answering b _ q)).trans
    (State.handOver_answering b _ q)).trans (State.announce_answering b _ q)).trans (State.storeBegin_answering _ q)

theorem State.servedPanel_of_panels {s t : State} (h : t.panels = s.panels) : t.servedPanel = s.servedPanel := by
  simp [State.servedPanel, h]

theorem State.claimed_of {s t : State} (h : t.panels = s.panels) (c : t.gripper.claim = s.gripper.claim) :
    t.claimed = s.claimed := by
  simp [State.claimed, State.locateId, State.recordOfSerial, State.findRecord, State.locate, h, c]

theorem State.waitView_of {s t : State} (h : t.panels = s.panels) (c : t.gripper.claim = s.gripper.claim)
    (m : t.magazine = s.magazine) : t.waitView = s.waitView := by
  simp [State.waitView, m, State.claimed_of h c]

theorem State.refreshFull_quiet (b s : State) (m : s.magazine = b.magazine) : b.refreshFull s = s := by
  unfold State.refreshFull
  rw [m]
  cases b.magazine.session <;> simp

theorem State.refreshWait_quiet (b s : State) (h : s.panels = b.panels) (c : s.gripper.claim = b.gripper.claim)
    (m : s.magazine = b.magazine) : b.refreshWait s = s := by
  unfold State.refreshWait
  simp [State.waitView_of h c m]

theorem State.handOver_quiet (b s : State) (h : s.panels = b.panels) : b.handOver s = s := by
  unfold State.handOver
  simp [State.servedPanel_of_panels h]

/-- When panels, magazine map and claim have not changed, the end of the change touches no block but the ports' events
and the store. -/
theorem commit_quiet (b s : State) (h : s.panels = b.panels) (c : s.gripper.claim = b.gripper.claim)
    (m : s.magazine = b.magazine) :
    (commit b s).magazine = s.magazine ∧ (commit b s).gripper = s.gripper ∧ (commit b s).spindle = s.spindle := by
  unfold commit
  rw [State.refreshFull_quiet b s m, State.refreshWait_quiet b s h c m, State.handOver_quiet b s h]
  simp

/-- When no panel has changed, the spindle loop hears nothing new at the end of the change. -/
theorem commit_spindle (b s : State) (h : s.panels = b.panels) : (commit b s).spindle = s.spindle := by
  have k : ((b.refreshWait (b.refreshFull s)).panels) = b.panels := by simp [h]
  unfold commit
  rw [State.handOver_quiet b _ k]
  simp

/-- The store after a change, when no free store has a pending flag, is as the change left it. -/
theorem State.storeBegin_quiet (s : State) (q : s.store.writing = none → s.store.nextWrite = none) :
    s.storeBegin = s := by
  unfold State.storeBegin
  cases h : s.store.writing with
  | some w => rfl
  | none => simp [q h]

theorem State.storeBegin_store {s t : State} (st : t.store = s.store) (c : t.constants = s.constants)
    (r : t.bit = s.bit) (m : t.magazine.register = s.magazine.register) : t.storeBegin.store = s.storeBegin.store := by
  unfold State.storeBegin
  rw [st]
  cases s.store.writing with
  | some w => exact st
  | none =>
      cases s.store.nextWrite with
      | none => exact st
      | some k => cases k <;> simp [State.writeContents, st, c, r, m]

theorem State.refreshFull_register (b s : State) : (b.refreshFull s).magazine.register = s.magazine.register := by
  unfold State.refreshFull
  repeat' split
  all_goals rfl

/-- The store after the end of a change is the store the change left, with a pending write begun if it was free. -/
theorem commit_store (b s : State) : (commit b s).store = s.storeBegin.store :=
  State.storeBegin_store (by simp) (by simp) (by simp) (by simp [State.refreshFull_register])

/-- A kind that stood pending stays pending when another is posted (R164). -/
theorem State.post_events (s : State) (p q : Port) (k : EventKind) :
    ((s.post p k).port q).events = if q = p then (s.port p).events ||| kindBit p k else (s.port q).events := by
  by_cases h : q = p <;> simp [State.post, h]

end Sys2Proof.Machine
end

