-- ==== Sys2Proof/Laws/PerInstr.lean ====
section
/-! SUPPORT. What holds of each command as syntax: the frame of a request has a row in the request table, a body of the
length its row needs, and no more bytes than a frame carries (R160 to R163). -/

namespace Sys2Proof.Laws.RequestFrame

open Sys2Proof

/-- A request stands in a frame of its row; an event stands in none. -/
def Statement (i : Instr) : Prop :=
  i.wellFormed = true → ∀ (p : Port) (code : Byte) (body : List Byte), i.request = some (p, code, body) →
    ∃ row, requestRow code.toNat = some row ∧ lengthFits code row body.length = true ∧ body.length ≤ 30

/-- A request whose frame the table admits. -/
theorem of_row {i : Instr} (p : Port) (code : Byte) (body : List Byte) (row : RequestRow)
    (r : i.request = some (p, code, body)) (t : requestRow code.toNat = some row)
    (l : i.wellFormed = true → lengthFits code row body.length = true ∧ body.length ≤ 30) : Statement i := by
  intro w q c b h
  rw [r] at h
  cases h
  exact ⟨row, t, l w⟩

/-- A request whose body has one length, whatever its operands. -/
theorem of_fixed {i : Instr} (p : Port) (code : Byte) (body : List Byte) (row : RequestRow)
    (r : i.request = some (p, code, body)) (t : requestRow code.toNat = some row)
    (l : (lengthFits code row body.length && body.length.ble 30) = true) : Statement i :=
  of_row p code body row r t fun _ => by
    rw [Bool.and_eq_true] at l
    exact ⟨l.1, Nat.le_of_ble_eq_true l.2⟩

/-- An event has no frame. -/
theorem of_event {i : Instr} (r : i.request = none) : Statement i := by
  intro _ q c b h
  rw [r] at h
  cases h

theorem selector_length (sel : Selector) : sel.bytes.length = 5 := by
  cases sel <;> rfl

theorem constants_length (f : ConstantsSection) : f.bytes.length = 15 := by
  cases f <;> rfl

theorem noop (port : Port) : Statement (.noop port) := of_fixed _ _ _ _ rfl rfl rfl

theorem takeEvent (port : Port) : Statement (.takeEvent port) := of_fixed _ _ _ _ rfl rfl rfl

theorem setAttention (port : Port) (mask : Byte) : Statement (.setAttention port mask) := of_fixed _ _ _ _ rfl rfl rfl

theorem holdSet (port : Port) : Statement (.holdSet port) := of_fixed _ _ _ _ rfl rfl rfl

theorem holdClear (port : Port) : Statement (.holdClear port) := of_fixed _ _ _ _ rfl rfl rfl

theorem panelRead (port : Port) (record : Byte) : Statement (.panelRead port record) := of_fixed _ _ _ _ rfl rfl rfl

theorem boardRead (port : Port) (panel : Selector) (board : Byte) : Statement (.boardRead port panel board) :=
  of_row _ _ _ _ rfl rfl fun _ => by simp [lengthFits, selector_length]

theorem windowRead (port : Port) : Statement (.windowRead port) := of_fixed _ _ _ _ rfl rfl rfl

theorem pickRead (port : Port) : Statement (.pickRead port) := of_fixed _ _ _ _ rfl rfl rfl

theorem bitRead (port : Port) : Statement (.bitRead port) := of_fixed _ _ _ _ rfl rfl rfl

theorem spindleRead (port : Port) : Statement (.spindleRead port) := of_fixed _ _ _ _ rfl rfl rfl

theorem magazineRead (port : Port) (part index : Byte) : Statement (.magazineRead port part index) :=
  of_fixed _ _ _ _ rfl rfl rfl

theorem registerRead (port : Port) (position : Byte) : Statement (.registerRead port position) :=
  of_fixed _ _ _ _ rfl rfl rfl

theorem encoderRead (port : Port) (slot : Byte) : Statement (.encoderRead port slot) := of_fixed _ _ _ _ rfl rfl rfl

theorem insertRead (port : Port) : Statement (.insertRead port) := of_fixed _ _ _ _ rfl rfl rfl

theorem recipeOpen (port : Port) (slot boardCount : Byte) (rpm feed cutLimit : Word16) :
    Statement (.recipeOpen port slot boardCount rpm feed cutLimit) :=
  of_fixed _ _ _ _ rfl rfl rfl

theorem recipeBoard (port : Port) (slot board rank height : Byte) (pickX pickY : Word16) (tabCount : Byte) :
    Statement (.recipeBoard port slot board rank height pickX pickY tabCount) :=
  of_fixed _ _ _ _ rfl rfl rfl

theorem recipeTab (port : Port) (slot board tab role : Byte) (x y heading : Word16) (cutLength : Byte) :
    Statement (.recipeTab port slot board tab role x y heading cutLength) :=
  of_fixed _ _ _ _ rfl rfl rfl

theorem recipeClose (port : Port) (slot : Byte) : Statement (.recipeClose port slot) := of_fixed _ _ _ _ rfl rfl rfl

theorem recipeErase (port : Port) (slot : Byte) : Statement (.recipeErase port slot) := of_fixed _ _ _ _ rfl rfl rfl

theorem recipeRead (port : Port) (slot board tab : Byte) : Statement (.recipeRead port slot board tab) :=
  of_fixed _ _ _ _ rfl rfl rfl

theorem panelStart (port : Port) (fixture slot : Byte) (serial : Word32) (xouts : List Byte) :
    Statement (.panelStart port fixture slot serial xouts) :=
  of_row _ _ _ _ rfl rfl fun w => by
    have h : xouts.length ≤ 24 := by simpa [Instr.wellFormed] using w
    simp [lengthFits, bytes32]
    omega

theorem panelAbort (port : Port) (panel : Selector) : Statement (.panelAbort port panel) :=
  of_row _ _ _ _ rfl rfl fun _ => by simp [lengthFits, selector_length]

theorem panelResult (port : Port) (serial : Word32) : Statement (.panelResult port serial) :=
  of_fixed _ _ _ _ rfl rfl rfl

theorem resolveTabUncut (port : Port) (panel : Selector) (board tab : Byte) :
    Statement (.resolveTabUncut port panel board tab) :=
  of_row _ _ _ _ rfl rfl fun _ => by simp [lengthFits, selector_length]

theorem resolveTabCut (port : Port) (panel : Selector) (board tab : Byte) :
    Statement (.resolveTabCut port panel board tab) :=
  of_row _ _ _ _ rfl rfl fun _ => by simp [lengthFits, selector_length]

theorem divert (port : Port) (panel : Selector) (board : Byte) : Statement (.divert port panel board) :=
  of_row _ _ _ _ rfl rfl fun _ => by simp [lengthFits, selector_length]

theorem bitChange (port : Port) (serial wear : Word32) : Statement (.bitChange port serial wear) :=
  of_fixed _ _ _ _ rfl rfl rfl

theorem bitSetup (port : Port) (levels : Byte) (span : Word32) (baseDepth : Word16) (levelStep : Byte) (derateStart endOfLife : Word32) (minFeed : Word16) :
    Statement (.bitSetup port levels span baseDepth levelStep derateStart endOfLife minFeed) :=
  of_fixed _ _ _ _ rfl rfl rfl

theorem spindleReset (port : Port) : Statement (.spindleReset port) := of_fixed _ _ _ _ rfl rfl rfl

theorem resolveSlot (port : Port) (slot finding : Byte) : Statement (.resolveSlot port slot finding) :=
  of_fixed _ _ _ _ rfl rfl rfl

theorem manifestRead (port : Port) (index : Byte) : Statement (.manifestRead port index) :=
  of_fixed _ _ _ _ rfl rfl rfl

theorem manifestRelease (port : Port) : Statement (.manifestRelease port) := of_fixed _ _ _ _ rfl rfl rfl

theorem binEmptied (port : Port) : Statement (.binEmptied port) := of_fixed _ _ _ _ rfl rfl rfl

theorem registerRepair (port : Port) (tag : Word32) : Statement (.registerRepair port tag) :=
  of_fixed _ _ _ _ rfl rfl rfl

theorem cellStart (port : Port) : Statement (.cellStart port) := of_fixed _ _ _ _ rfl rfl rfl

theorem cellPark (port : Port) : Statement (.cellPark port) := of_fixed _ _ _ _ rfl rfl rfl

theorem cellResume (port : Port) : Statement (.cellResume port) := of_fixed _ _ _ _ rfl rfl rfl

theorem cellStop (port : Port) : Statement (.cellStop port) := of_fixed _ _ _ _ rfl rfl rfl

theorem faultResponse (port : Port) (kind enable action latch : Byte) :
    Statement (.faultResponse port kind enable action latch) :=
  of_fixed _ _ _ _ rfl rfl rfl

theorem faultClear (port : Port) (kind : Byte) : Statement (.faultClear port kind) := of_fixed _ _ _ _ rfl rfl rfl

theorem setLimits (port : Port) (hangLimit speedOverride feedOverride binCapacity : Byte) :
    Statement (.setLimits port hangLimit speedOverride feedOverride binCapacity) :=
  of_fixed _ _ _ _ rfl rfl rfl

theorem statusRead (port : Port) (kind : Byte) : Statement (.statusRead port kind) := of_fixed _ _ _ _ rfl rfl rfl

theorem constantsWrite (port : Port) (fields : ConstantsSection) : Statement (.constantsWrite port fields) :=
  of_row _ _ _ _ rfl rfl fun _ => by simp [lengthFits, constants_length]

theorem storeSave (port : Port) (record : Byte) : Statement (.storeSave port record) := of_fixed _ _ _ _ rfl rfl rfl

theorem cellReset (port : Port) : Statement (.cellReset port) := of_fixed _ _ _ _ rfl rfl rfl

theorem nextCut (port : Port) : Statement (.nextCut port) := of_fixed _ _ _ _ rfl rfl rfl

theorem cutDone (port : Port) (tag : Byte) : Statement (.cutDone port tag) := of_fixed _ _ _ _ rfl rfl rfl

theorem cutAbort (port : Port) (tag length : Byte) : Statement (.cutAbort port tag length) :=
  of_fixed _ _ _ _ rfl rfl rfl

theorem claimNext (port : Port) : Statement (.claimNext port) := of_fixed _ _ _ _ rfl rfl rfl

theorem claim (port : Port) (serial : Word32) (board : Byte) : Statement (.claim port serial board) :=
  of_fixed _ _ _ _ rfl rfl rfl

theorem gripped (port : Port) (serial : Word32) (board : Byte) : Statement (.gripped port serial board) :=
  of_fixed _ _ _ _ rfl rfl rfl

theorem release (port : Port) (serial : Word32) (board : Byte) : Statement (.release port serial board) :=
  of_fixed _ _ _ _ rfl rfl rfl

theorem destination (port : Port) (serial : Word32) (board : Byte) : Statement (.destination port serial board) :=
  of_fixed _ _ _ _ rfl rfl rfl

theorem rejectPlaced (port : Port) (serial : Word32) (board : Byte) : Statement (.rejectPlaced port serial board) :=
  of_fixed _ _ _ _ rfl rfl rfl

theorem insertBegin (port : Port) (serial : Word32) (board : Byte) : Statement (.insertBegin port serial board) :=
  of_fixed _ _ _ _ rfl rfl rfl

theorem insertEndAborted (port : Port) (serial : Word32) (board : Byte) :
    Statement (.insertEndAborted port serial board) :=
  of_fixed _ _ _ _ rfl rfl rfl

theorem insertEndSeated (port : Port) (serial : Word32) (board : Byte) :
    Statement (.insertEndSeated port serial board) :=
  of_fixed _ _ _ _ rfl rfl rfl

theorem magLoaded (port : Port) (tag : Word32) (type : Byte) : Statement (.magLoaded port tag type) :=
  of_fixed _ _ _ _ rfl rfl rfl

theorem magUnload (port : Port) : Statement (.magUnload port) := of_fixed _ _ _ _ rfl rfl rfl

theorem homeBegin (port : Port) : Statement (.homeBegin port) := of_fixed _ _ _ _ rfl rfl rfl

theorem moveBegin (port : Port) : Statement (.moveBegin port) := of_fixed _ _ _ _ rfl rfl rfl

theorem arrived (port : Port) : Statement (.arrived port) := of_fixed _ _ _ _ rfl rfl rfl

theorem nextPosition (port : Port) : Statement (.nextPosition port) := of_fixed _ _ _ _ rfl rfl rfl

theorem selectFalls (port : Port) : Statement (.selectFalls port) := of_event rfl

theorem badLength (port : Port) (bytes : List Byte) : Statement (.badLength port bytes) := of_event rfl

theorem unknownRequest (port : Port) (code : Byte) : Statement (.unknownRequest port code) := of_event rfl

theorem tachEdge (cycles : Word16) : Statement (.tachEdge cycles) := of_event rfl

theorem stallMeasurement : Statement .stallMeasurement := of_event rfl

theorem controlPeriod : Statement .controlPeriod := of_event rfl

theorem kickTimeout : Statement .kickTimeout := of_event rfl

theorem settle : Statement .settle := of_event rfl

theorem grantExpiry : Statement .grantExpiry := of_event rfl

theorem parkTimer : Statement .parkTimer := of_event rfl

theorem seatSettleTimeout : Statement .seatSettleTimeout := of_event rfl

theorem encoderTransition (a b : Bool) : Statement (.encoderTransition a b) := of_event rfl

theorem illegalTransition : Statement .illegalTransition := of_event rfl

theorem referenceEdge : Statement .referenceEdge := of_event rfl

theorem seatSensorEdge : Statement .seatSensorEdge := of_event rfl

theorem guardOpens : Statement .guardOpens := of_event rfl

theorem storeWriteEnd (readBackMatches : Bool) : Statement (.storeWriteEnd readBackMatches) := of_event rfl

theorem powerOn : Statement .powerOn := of_event rfl

theorem pinReset : Statement .pinReset := of_event rfl

theorem startUpReadEnd (lines : Lines) : Statement (.startUpReadEnd lines) := of_event rfl

theorem guardCloses : Statement .guardCloses := of_event rfl

end Sys2Proof.Laws.RequestFrame
end

