-- ==== Sys2Proof/Laws/Safety.lean ====
section
/-! SUPPORT. What the words of Safety.lean say: the board records listed, and a recipe slot that passes its checks. -/

namespace Sys2Proof.Machine

theorem mem_allRecords (i : Fin 4) : i ∈ allRecords := by
  revert i
  decide

/-- The board records listed are those that locate finds. -/
theorem State.mem_boards (s : State) (l : Located) : l ∈ s.boards ↔ s.locate l.record l.index = some l := by
  obtain ⟨i, p, b, board⟩ := l
  simp only [State.boards, State.locate, List.mem_flatMap, nth1]
  constructor
  · rintro ⟨j, -, h⟩
    cases hp : s.panels.records[j] with
    | none => simp [hp] at h
    | some q =>
        simp only [hp, List.mem_map, Prod.exists, Located.mk.injEq] at h
        obtain ⟨x, c, hx, rfl, rfl, rfl, rfl⟩ := h
        obtain ⟨h1, h2⟩ := List.mem_zipIdx_iff_le_and_getElem?_sub.mp hx
        have h0 : c ≠ 0 := by omega
        simp [hp, h0, h2]
  · intro h
    refine ⟨i, mem_allRecords i, ?_⟩
    cases hp : s.panels.records[i] with
    | none => simp [hp] at h
    | some q =>
        by_cases h0 : b = 0
        · simp [hp, h0] at h
        · simp only [hp, h0, if_false, Option.bind_some, Option.map_eq_some_iff, Located.mk.injEq] at h
          obtain ⟨x, hx, -, rfl, -, rfl⟩ := h
          simp only [List.mem_map, Prod.exists, Located.mk.injEq]
          exact ⟨x, b, List.mem_zipIdx_iff_le_and_getElem?_sub.mpr ⟨by omega, hx⟩, by simp⟩

/-- A VALID recipe passes exactly when no check of R6 fails. -/
@[simp] theorem RecipeSlot.passes_valid (r : Recipe) : (RecipeSlot.valid r).passes = true ↔ r.failure = none := by
  simp [RecipeSlot.passes]

/-- A recipe that is not VALID has nothing to pass. -/
@[simp] theorem RecipeSlot.passes_other (r : Recipe) :
    RecipeSlot.empty.passes = true ∧ (RecipeSlot.opened r).passes = true := ⟨rfl, rfl⟩

/-- Only a board that is BOUND, INSERTING or VERIFYING has a run kept for it, at its destination (6.3). -/
theorem State.keptRun_some (s : State) (l : Located) (k : Nat) (st : SlotState) (h : s.keptRun l = some (k, st)) :
    l.board.destination = some (.slot k)
      ∧ (((l.board.state = .bound ∨ l.board.state = .inserting) ∧ st = .reserved l.id)
          ∨ (l.board.state = .verifying ∧ (st = .reserved l.id ∨ st = .doubt l.id))) := by
  unfold State.keptRun at h
  split at h
  · split at h <;> simp only [Option.some.injEq, Prod.mk.injEq, reduceCtorEq] at h
    all_goals
      obtain ⟨rfl, rfl⟩ := h
      refine ⟨by assumption, ?_⟩
      simp_all
  · simp at h
  · simp at h

end Sys2Proof.Machine
end

