-- ==== Sys2Proof/Tests/Slice0.lean ====
section
/-! SUPPORT. The package's own tests: the well-formedness smoke tests, frames written out from R163, the commands on small
states, and for every statement a state and operands that meet its hypotheses, clause by clause. -/

namespace Sys2Proof.Tests

open Sys2Proof Sys2Proof.Machine

/-! ### Helpers -/

/-- The state a command leaves. -/
def after (i : Instr) (s : State) : State :=
  match exec i s with
  | .next t => t
  | .fault _ | .refused _ => s

/-- The answer a command leaves pending on a port. -/
def answerOf (i : Instr) (s : State) (p : Port) : Option (Verdict × List Byte) :=
  ((after i s).port p).answer.map fun a => (a.verdict, a.body)

/-- The refusal that a request is answered with. -/
def refusal (i : Instr) (s : State) (p : Port) : Option RefusedReason :=
  match ((after i s).port p).answer with
  | some { verdict := .refused r, .. } => some r
  | _ => none

def tabOf (role : Nat) : TabDef := { role := role, x := 5, y := 6, heading := 90, cutLength := 35 }

/-- A board of height class 1 with a FREE tab 1 and a HOLD tab 2. -/
def item1 : BoardItem :=
  { definition := some { rank := 1, height := 1, pickX := 100, pickY := 200, tabCount := 2 }
    tabs := #v[some (tabOf 0), some (tabOf 1), none, none, none, none, none, none] }

def recipe1 : Recipe :=
  { header := { boardCount := 1, rpm := 30000, feed := 300, cutLimit := 4000 }, items := [item1] }

/-- A board record of that board. -/
def board1 (st : BoardState) (tabs : List TabState) : Board :=
  { rank := 1, height := 1, xout := false, state := st, freeUncut := 1, holdUncut := 1, review := none,
    destination := none, divert := false, tabs := tabs }

def panel1 (st : PanelState) (boards : List Board) : Panel :=
  { state := st, recipe := 0, serial := 7, boards := boards, stowed := 0, rejected := 0, lost := 0, abandoned := 0 }

/-- The part with recipe1 VALID in slot 1. -/
def withRecipe (s : State) : State := { s with recipes := s.recipes.set 0 (.valid recipe1) }

/-- The part with that panel in record 1. -/
def withPanel (s : State) (p : Panel) : State :=
  { withRecipe s with panels := { records := #v[some p, none, none, none], startOrder := [0] } }

/-- The cell in RUN with the spindle AT_SPEED. -/
def running (s : State) : State :=
  { s with cell := { s.cell with state := .run }, spindle := { s.spindle with state := .atSpeed } }

/-- The running cell with one board on fixture A. -/
def withBoard (b : Board) : State := withPanel (running State.reset) (panel1 (.active .a) [b])

/-- The running cell with that board in the claim. -/
def withClaim (b : Board) : State :=
  { withBoard b with gripper := { claim := some { serial := 7, board := 1 }, queue := [], wait := none } }

/-- The running cell with that board in the hanging queue. -/
def withQueue (b : Board) : State :=
  { withBoard b with gripper := { claim := none, queue := [{ serial := 7, board := 1 }], wait := none } }

/-- A grant for a tab of that board. -/
def grant1 (tag : Nat) (hold live : Bool) : Grant :=
  { tag := tag, serial := 7, fixture := some .a, board := 1, tab := if hold then 2 else 1, hold := hold, x := 5, y := 6,
    heading := 90, cutLength := 35, depth := 100, feed := 300, rpm := 6000, live := live }

def withWindow (s : State) (l : List Grant) : State :=
  { s with scheduler := { s.scheduler with window := l, expiry := some { ms := 1, us := 999 } } }

def inCell (s : State) (st : CellState) : State := { s with cell := { s.cell with state := st } }

/-- The reference to that board. -/
def id1 : BoardId := { serial := 7, board := 1 }

/-- A loaded magazine of three slots. -/
def session1 (slots : List SlotState) : Session :=
  { tag := 9, typeNumber := 1, type := { slotCount := 3, pitch16 := 12800, base := 8000, tolerance := 120 },
    condemned := false, slots := slots.map fun st => { state := st, failures := 0 }, manifest := [], stow := 1,
    full := none }

def withMagazine (s : State) (m : Session) : State :=
  { s with magazine := { s.magazine with session := some m, register := [{ tag := 9, type := 1, retired := [], condemned := false }] } }

/-- The running cell with the claimed board BOUND to slot 1, the elevator HOMED at it. -/
def boundAt1 (st : BoardState) : State :=
  let s := withMagazine (withClaim { board1 st [.cut, .cut] with destination := some (.slot 1) })
    (session1 [.reserved id1, .empty, .empty])
  { s with elevator := { s.elevator with counter := 8000, homed := true } }

/-- An insertion of that board that is open. -/
def inserting1 (disturbed divert : Bool) (captures : List Word24) : State :=
  let s := boundAt1 .inserting
  let t := s.modifyBoard 0 1 fun b => { b with divert := divert }
  { t with insertion := { t.insertion with
             insertion := some { board := id1, first := 1, height := 1, disturbed := disturbed }, confirmation := some 1 }
           elevator := { t.elevator with captures := captures } }

/-- A settle wait for that board. -/
def waiting1 (homed : Bool) : State :=
  let s := withMagazine (withBoard { board1 .verifying [.cut, .cut] with destination := some (.slot 1) })
    (session1 [.reserved id1, .empty, .empty])
  { s with elevator := { s.elevator with counter := 8000, homed := homed }
           insertion := { s.insertion with wait := some { board := id1, first := 1, height := 1, timer := { ms := 5, us := 0 } } } }

/-- PanelsSafe as a check that evaluates. -/
def panelsCheck (s : State) : Bool :=
  allRecords.all fun i => s.panels.records[i].all fun p =>
    s.recipes[p.recipe].code == 2 && allRecords.all fun j => s.panels.records[j].all fun q =>
      !(decide (q.serial = p.serial ∨ (p.state.isActive = true ∧ q.state = p.state))) || j == i

theorem panelsSafe_of_check (s : State) (h : panelsCheck s = true) : PanelsSafe s := by
  intro i p hp
  have h1 := List.all_eq_true.mp h i (mem_allRecords i)
  rw [hp] at h1
  simp only [Option.all_some, Bool.and_eq_true] at h1
  refine ⟨?_, ?_⟩
  · cases hr : s.recipes[p.recipe] with
    | empty => simp [hr, RecipeSlot.code] at h1
    | opened r => simp [hr, RecipeSlot.code] at h1
    | valid r => exact ⟨r, rfl⟩
  · intro j q hq hs
    have h2 := List.all_eq_true.mp h1.2 j (mem_allRecords j)
    rw [hq] at h2
    simp only [Option.all_some, Bool.or_eq_true, Bool.not_eq_true', decide_eq_false_iff_not, beq_iff_eq] at h2
    exact h2.resolve_left fun h => h hs

/-! ### Well-formed terms: an ill-formed one for each check -/

theorem test_wellFormed_selector :
    (Instr.panelAbort .cell (.unnamed 2)).wellFormed = false ∧ (Instr.panelAbort .cell (.unnamed 3)).wellFormed = true
      ∧ (Instr.boardRead .pick (.unnamed 0) 1).wellFormed = false
      ∧ (Instr.resolveTabUncut .cell (.unnamed 1) 1 1).wellFormed = false
      ∧ (Instr.resolveTabCut .cell (.unnamed 2) 1 1).wellFormed = false
      ∧ (Instr.divert .cell (.unnamed 2) 1).wellFormed = false := by decide

theorem test_wellFormed_panelStart :
    (Instr.panelStart .cell 1 1 7 (List.replicate 25 1)).wellFormed = false
      ∧ (Instr.panelStart .cell 1 1 7 (List.replicate 24 1)).wellFormed = true := by decide

theorem test_wellFormed_constantsWrite :
    (Instr.constantsWrite .cell (.magazineType 5 20 12800 8000 120)).wellFormed = false
      ∧ (Instr.constantsWrite .cell (.magazineType 4 20 12800 8000 120)).wellFormed = true
      ∧ (Instr.constantsWrite .cell (.unnamed 6)).wellFormed = false
      ∧ (Instr.constantsWrite .cell (.unnamed 7)).wellFormed = true := by decide

theorem test_wellFormed_badLength :
    (Instr.badLength .cell [0, 0]).wellFormed = false ∧ (Instr.badLength .cell [0, 1, 9]).wellFormed = true
      ∧ (Instr.badLength .cell [200, 0]).wellFormed = false ∧ (Instr.badLength .cell []).wellFormed = true := by decide

theorem test_wellFormed_unknownRequest :
    (Instr.unknownRequest .cell 45).wellFormed = false ∧ (Instr.unknownRequest .cell 46).wellFormed = true := by decide

/-! ### Frames written out from R163 -/

theorem test_frame_panelStart :
    decodeFrame .cell [22, 7, 2, 1, 0, 0, 200, 0, 5] = .panelStart .cell 2 1 51200 [5] := by decide

theorem test_frame_resolveTab :
    decodeFrame .cell [25, 8, 0, 0, 0, 200, 0, 4, 2, 1] = .resolveTabCut .cell (.serial 51200) 4 2
      ∧ decodeFrame .cell [25, 8, 1, 9, 9, 9, 9, 4, 2, 0] = .resolveTabUncut .cell .fixtureA 4 2
      ∧ decodeFrame .cell [25, 8, 1, 9, 9, 9, 9, 4, 2, 2] = .badLength .cell [25, 8, 1, 9, 9, 9, 9, 4, 2, 2] := by decide

theorem test_frame_insertEnd :
    decodeFrame .pick [63, 6, 0, 0, 200, 0, 5, 0] = .insertEndSeated .pick 51200 5
      ∧ decodeFrame .pick [63, 6, 0, 0, 200, 0, 5, 1] = .insertEndAborted .pick 51200 5 := by decide

theorem test_frame_constantsWrite :
    decodeFrame .cell [43, 15, 6, 255, 255, 254, 0, 60, 0, 100, 3, 20, 0, 0, 0, 0, 0]
      = .constantsWrite .cell (.cell 16777214 60 100 3 20) := by decide

theorem test_frame_noRequest :
    decodeFrame .router [49, 1] = .badLength .router [49, 1] ∧ decodeFrame .router [49, 1, 3, 8] = .cutDone .router 3
      ∧ decodeFrame .router [15, 0] = .unknownRequest .router 15
      ∧ decodeFrame .router [0, 31] = .badLength .router [0, 31] := by decide

theorem test_tableWord : decodeTableWord 16 0 = none ∧ State.reset.withFetchWord 16 0 = State.reset := by decide

/-! ### The hypotheses of the statements: steps, ports, reads -/

/-- One cycle before everything falls due, and the cycle in which it does. -/
def nearDue (d : Nat) : State :=
  { running State.reset with
    spindle := { Spindle.reset with state := .atSpeed, controlPhase := 9998 + d, kickTimer := some { ms := 1, us := 998 + d }
                                    measurement := some { count := 65533 + d, edges := 0, synchronised := true } } }

theorem test_witness_TheTimeBaseAdvancesAndQueuesWhatIsDue :
    (nearDue 0).pending = [] ∧ (nearDue 0).starting = false ∧ { nearDue 0 with starting := true }.starting = true
      ∧ (nearDue 0).spindle.controlPhase < 9999 ∧ (∀ m, (nearDue 0).spindle.measurement = some m → m.count < 65534)
      ∧ (∀ x ∈ [(nearDue 0).spindle.kickTimer, (nearDue 0).spindle.settleTimer, (nearDue 0).scheduler.expiry,
          (nearDue 0).cell.parkTimer, (nearDue 0).insertion.wait.map (·.timer)], ∀ t, x = some t →
            1 < t.ms ∨ (t.ms = 1 ∧ t.us < 999))
      ∧ (nearDue 1).pending = [] ∧ (nearDue 1).starting = false
      ∧ (nearDue 1).spindle.measurement = some { count := 65534, edges := 0, synchronised := true }
      ∧ (nearDue 1).spindle.kickTimer = some { ms := 1, us := 999 } := by
  refine ⟨rfl, rfl, rfl, by decide, fun m h => by cases h; decide, ?_, rfl, rfl, rfl, rfl⟩
  intro x hx t ht
  subst ht
  simp [nearDue, running, State.reset, Spindle.reset] at hx
  subst hx
  decide

theorem test_witness_FrameOfARequestDecodesToIt :
    (Instr.panelStart .cell 2 1 51200 [5]).wellFormed = true
      ∧ encodeFrame (.panelStart .cell 2 1 51200 [5]) = some (.cell, [22, 7, 2, 1, 0, 0, 200, 0, 5]) := by decide

/-- A port whose select has been low since before a power-on. -/
def ignoring (s : State) (p : Port) : State := s.modifyPort p fun v => { v with line := .ignored }

/-- A port in a transaction. -/
def selected (s : State) (p : Port) : State := after (.selectFalls p) s

theorem test_witness_AnswersPassThroughSelect :
    (∀ f, (State.reset.port .cell).line ≠ .transaction f)
      ∧ (∀ f, ((ignoring State.reset .cell).port .cell).line ≠ .transaction f)
      ∧ (∃ f, ((selected State.reset .cell).port .cell).line = .transaction f) :=
  ⟨nofun, nofun, _, rfl⟩

theorem test_witness_EventAndEnableSets :
    State.reset.Reaches .magazine 1 ∧ (State.reset.port .magazine).events.getLsbD 0 = true
      ∧ (∀ k, k < (portKinds .magazine).length →
          ((State.reset.modifyPort .magazine fun v => { v with events := 0 }).port .magazine).events.getLsbD k = false)
      ∧ ((State.reset.modifyPort .magazine fun v => { v with events := 16 }).port .magazine).events.getLsbD 4 = true
      ∧ (∀ j, j < 4 → ((State.reset.modifyPort .magazine fun v => { v with events := 16 }).port .magazine).events.getLsbD j = false)
      ∧ State.reset.Reaches .magazine 2 ∧ ((portKinds .magazine).length ≤ 5 ∧ (32#8).getLsbD 5 = true)
      ∧ (∀ k, (portKinds .magazine).length ≤ k → (31#8).getLsbD k = false) := by
  refine ⟨by decide, by decide, by decide, by decide, by decide, by decide, by decide, ?_⟩
  intro k hk
  rcases Nat.lt_or_ge k 8 with h | h
  · have : 5 ≤ k := hk
    interval_cases k <;> rfl
  · exact BitVec.getLsbD_of_ge _ _ h

theorem test_witness_WhatNeverReachesABlock :
    (Instr.nextCut .cell).wellFormed = true ∧ (Instr.nextCut .cell).request = some (.cell, 48, [])
      ∧ ((ignoring State.reset .cell).port .cell).line = .ignored
      ∧ (State.reset.port .cell).line ≠ .ignored ∧ allowed 48 .cell = false
      ∧ allowed 48 .router = true ∧ (after .powerOn State.reset).starting = true
      ∧ ((after .powerOn State.reset).port .router).line ≠ .ignored
      ∧ requestRow (46 : Byte).toNat = none ∧ judgeFrame .cell [0] = .incomplete
      ∧ requestRow (20 : Byte).toNat = some ⟨.only .cell, 1⟩ ∧ lengthFits 20 ⟨.only .cell, 1⟩ 30 = false
      ∧ State.reset.Reaches .cell 25 ∧ 1 < (byteAt [0, 0, 0, 0, 0, 0, 0, 2] 7).toNat
      ∧ State.reset.Reaches .pick 63 ∧ 1 < (byteAt [0, 0, 0, 0, 0, 2] 5).toNat := by decide

theorem test_witness_PortsKeepWhatOthersSend :
    (∃ t, exec (.holdSet .cell) State.reset = .next t) ∧ (Instr.holdSet .cell).resets = false
      ∧ (Instr.holdSet .cell).takesEventOn .router = false ∧ (Instr.holdSet .cell).portOf ≠ some .router :=
  ⟨⟨_, rfl⟩, by decide⟩

/-- The reads that check: one state with a panel, a magazine, a closed manifest and an OPEN recipe. -/
def readable : State :=
  let s := withMagazine (withBoard (board1 .cutting [.uncut, .uncut])) { session1 [.empty, .empty, .empty] with
    manifest := [{ stow := 1, first := 1, height := 1, board := id1 }] }
  { s with magazine := { s.magazine with closed := some { tag := 3, typeNumber := 1, entries := [⟨1, 2, 1, id1⟩] } }
           recipes := s.recipes.set 3 (.opened recipe1) }

theorem test_witness_ReadsOfThePartAnswer :
    (readable.Reaches .pick 0 ∧ readable.Reaches .pick 7 ∧ readable.Reaches .pick 8 ∧ readable.Reaches .pick 9
      ∧ readable.Reaches .pick 10 ∧ readable.Reaches .pick 14)
    ∧ (readable.Reaches .pick 5 ∧ (0 : Byte).toNat < 1 ∧ 4 < (5 : Byte).toNat ∧ (4 : Byte).toNat = (3 : Fin 4).val + 1)
    ∧ (readable.Reaches .pick 6 ∧ readable.locateSelected .fixtureA 0 = none
      ∧ (readable.locateSelected .fixtureA 1).isSome = true)
    ∧ (readable.Reaches .pick 11 ∧ 2 < (3 : Byte).toNat ∧ State.reset.magazine.session = none
      ∧ (readable.magazine.session.bind fun m => nth1 m.slots 3).isSome = true
      ∧ (readable.magazine.session.bind fun m => nth1 m.slots 4) = none
      ∧ (readable.magazine.session.bind fun m => nth1 m.manifest 1).isSome = true
      ∧ (readable.magazine.session.bind fun m => nth1 m.manifest 2) = none)
    ∧ (readable.Reaches .pick 12 ∧ (nth1 readable.magazine.register 1).isSome = true
      ∧ nth1 readable.magazine.register 2 = none)
    ∧ (readable.Reaches .pick 13 ∧ (readable.magazine.session.map (·.type.slotCount)) = some 3) := by decide

theorem test_witness_ReadsOfTheCellAndHandlerAnswer :
    (readable.Reaches .cell 21 ∧ 48 < (49 : Byte).toNat ∧ 8 < (9 : Byte).toNat ∧ readable.recipes[(1 : Fin 4)] = .empty
      ∧ readable.recipes[(3 : Fin 4)] = .opened recipe1 ∧ readable.recipes[(0 : Fin 4)] = .valid recipe1)
    ∧ (readable.Reaches .cell 31 ∧ State.reset.magazine.closed = none
      ∧ (readable.magazine.closed.bind fun c => nth1 c.entries 1).isSome = true
      ∧ (readable.magazine.closed.bind fun c => nth1 c.entries 2) = none)
    ∧ (readable.Reaches .cell 42 ∧ 12 < (13 : Byte).toNat ∧ (12 : Byte).toNat = FaultKind.rejectFull.number)
    ∧ (readable.Reaches .magazine 77 ∧ readable.targetBoard = none ∧ State.reset.magazine.session = none
      ∧ (boundAt1 .bound).targetBoard = some { id := id1, first := 1, height := 1, state := .bound }
      ∧ (boundAt1 .bound).magazine.session.isSome = true ∧ (boundAt1 .bound).Reaches .magazine 77) := by decide

/-! ### The hypotheses of the statements: resets, store, cell -/

theorem test_witness_StartUpReadCompletesTheReset :
    State.reset.starting = false ∧ (after .powerOn State.reset).starting = true
      ∧ (let s := after .powerOn State.reset
         let worn := { BitRecord.builtIn with wear := 2000000 }
         let t := { s with store := { s.store with bit := { marker := true, contents := worn } } }
         let lines : Lines := { encoderA := true, encoderB := false, reference := false, seat := false, guard := true,
                                writeProtect := false }
         t.starting = true ∧ (after (.startUpReadEnd lines) t).bit.worn = true
           ∧ (t.fault .bitWorn).enabled = true) := by decide

/-- A worn bit, and a store write in progress. -/
def wornBit (s : State) : State :=
  { s with bit := { s.bit with record := { s.bit.record with wear := 2000000 }, worn := true } }

def writing (s : State) (explicit : Bool) : State :=
  { s with store := { s.store with writing := some { record := .bit, explicit := explicit } } }

theorem test_witness_ResetsEmptyThePart :
    State.reset.Reaches .cell 45 ∧ (writing State.reset true).store.writing = some { record := .bit, explicit := true }
      ∧ State.reset.store.writing = none ∧ State.reset.bit.worn = false ∧ (wornBit State.reset).bit.worn = true
      ∧ (wornBit State.reset).Reaches .cell 45 ∧ ((wornBit State.reset).fault .bitWorn).enabled = true := by decide

theorem test_witness_ConstantsWriteReplacesOneSection :
    State.reset.Reaches .cell 43
      ∧ (ConstantsSection.unnamed 7).wellFormed = true ∧ 6 < (ConstantsSection.unnamed 7).number.toNat
      ∧ (ConstantsSection.unnamed 0).wellFormed = true
      ∧ (let f := ConstantsSection.magazineType 1 60 1048575 0 4095
         f.wellFormed = true ∧ (State.reset.constants.replace f).isSome = true)
      ∧ (let f := ConstantsSection.magazineType 4 61 16 0 1
         f.wellFormed = true ∧ State.reset.constants.replace f = none)
      ∧ (running State.reset).cell.state ≠ .standby ∧ (running State.reset).cell.state ≠ .unconfigured
      ∧ (running State.reset).Reaches .cell 43 ∧ State.reset.cell.state = .unconfigured
      ∧ (State.reset.constants.replace (.cell 0 600 500 8 255)).isSome = true
      ∧ State.reset.constants.replace (.cell 0 601 500 8 255) = none
      ∧ (State.reset.constants.replace (.spindle 4 32 64 1023 4000 1023 2000 60 8 8)).isSome = true
      ∧ State.reset.constants.replace (.spindle 8 32 64 1023 4000 1023 2000 60 8 8) = none := by decide

def protectedStore : State := { State.reset with store := { State.reset.store with writeProtect := true } }

def queued (c b r : Bool) : State :=
  (if c then State.reset.setPending .constants true else State.reset) |> fun s =>
    (if b then s.setPending .bit false else s) |> fun s => if r then s.setPending .register false else s

def withFault (s : State) (k : FaultKind) (enabled : Bool) (action : FaultAction) (active latched : Bool) : State :=
  s.modifyFault k fun e => { e with enabled := enabled, action := action, active := active, latched := latched }

theorem test_witness_StoreSavesAndWrites :
    State.reset.Reaches .cell 44 ∧ 3 < (4 : Byte).toNat ∧ (3 : Byte).toNat = RecordId.register.number
      ∧ protectedStore.store.writeProtect = true ∧ protectedStore.Reaches .cell 44
      ∧ State.reset.store.writeProtect = false
      ∧ (queued true true true).store.writing = none ∧ (queued true true true).store.constantsFlags.pending = true
      ∧ (queued false true true).store.constantsFlags.pending = false
      ∧ (queued false true true).store.bitFlags.pending = true
      ∧ (queued false false true).store.bitFlags.pending = false
      ∧ (queued false false true).store.registerFlags.pending = true
      ∧ (queued false false false).store.registerFlags.pending = false
      ∧ (writing State.reset true).starting = false
      ∧ (writing State.reset true).store.writing = some { record := .bit, explicit := true }
      ∧ ((writing State.reset true).fault .storeFailure).enabled = true ∧ State.reset.store.writing = none
      ∧ ((writing State.reset true).fault .storeFailure).action ≠ .park
      ∧ (let s := writing (withFault (running State.reset) .storeFailure true .park false false) false
         (s.fault .storeFailure).enabled = true ∧ (s.fault .storeFailure).action = .park ∧ s.working
           ∧ s.starting = false ∧ s.store.writing = some { record := .bit, explicit := false }) := by decide

def holding : State :=
  let s := running State.reset
  { s with cell := { s.cell with state := .hold, holds := { HoldSet.empty with pick := true } } }

theorem test_witness_HoldRequestsChangeTheirMember :
    HoldsSafe (running State.reset) ∧ (running State.reset).Reaches .router 3
      ∧ (running State.reset).cell.state = .run
      ∧ ((running State.reset).cell.holds.setPort .router true).isEmpty = false
      ∧ (running State.reset).permitted = true
      ∧ HoldsSafe holding ∧ holding.Reaches .pick 4 ∧ holding.cell.state = .hold
      ∧ (holding.cell.holds.setPort .pick false).isEmpty = true
      ∧ HoldsSafe State.reset ∧ State.reset.Reaches .cell 3 ∧ State.reset.cell.state = .unconfigured := by decide

theorem test_witness_RaisingAFaultCountsAndActs :
    HoldsSafe (withFault (running State.reset) .bitWorn false .hold false false)
      ∧ ((withFault (running State.reset) .bitWorn false .hold false false).fault .bitWorn).enabled = false
      ∧ HoldsSafe (running State.reset) ∧ ((running State.reset).fault .bitWorn).enabled = true
      ∧ ((running State.reset).fault .bitWorn).action = .hold
      ∧ ((running State.reset).raise .bitWorn).faultHolds = true ∧ (running State.reset).cell.state = .run
      ∧ ((running State.reset).fault .encoderError).action = .note
      ∧ ((running State.reset).fault .spindleFault).action = .park
      ∧ State.reset.cell.state ≠ .run ∧ State.reset.cell.state ≠ .hold ∧ HoldsSafe State.reset
      ∧ (State.reset.fault .spindleFault).action = .park ∧ (State.reset.fault .bitWorn).action = .hold := by decide

def openGuard (s : State) : State := { s with lines := { s.lines with guard := false } }
def spindleAt (s : State) (st : SpindleState) : State := { s with spindle := { s.spindle with state := st } }

theorem test_witness_CellStatesChangeByTheirRequests :
    State.reset.Reaches .cell 35 ∧ State.reset.cell.state ≠ .standby
      ∧ (inCell State.reset .standby).Reaches .cell 35 ∧ (inCell State.reset .standby).cell.state = .standby
      ∧ (openGuard (inCell State.reset .standby)).lines.guard = false ∧ (inCell State.reset .standby).lines.guard = true
      ∧ (spindleAt (inCell State.reset .standby) .faulted).spindle.state = .faulted
      ∧ (inCell State.reset .standby).spindle.state ≠ .faulted
      ∧ (inCell State.reset .park).Reaches .cell 37 ∧ (inCell State.reset .park).cell.state = .park
      ∧ (inCell State.reset .park).Reaches .cell 36 ∧ (running State.reset).working ∧ holding.working
      ∧ (running State.reset).Reaches .cell 36 ∧ (running State.reset).Reaches .cell 38
      ∧ State.reset.cell.state = .unconfigured := by decide

theorem test_witness_ParkTimerAndGuardActOnTheCell :
    State.reset.starting = false ∧ State.reset.cell.parkTimer = none ∧ State.reset.lines.guard = true
      ∧ (openGuard State.reset).lines.guard = false ∧ ¬ State.reset.working ∧ WindowSafe State.reset
      ∧ (running State.reset).working ∧ (running State.reset).lines.guard = true
      ∧ (running State.reset).starting = false
      ∧ ({ holding with cell := { holding.cell with parkTimer := some { ms := 1, us := 0 } } }).cell.parkTimer
          = some { ms := 1, us := 0 } := by decide

theorem test_witness_FaultResponseReplacesTheSettings :
    State.reset.Reaches .cell 39 ∧ HoldsSafe State.reset ∧ 2 < (3 : Byte).toNat ∧ (0 : Byte).toNat < 1
      ∧ 12 < (13 : Byte).toNat ∧ (12 : Byte).toNat = FaultKind.rejectFull.number
      ∧ (1 : Byte).toNat = FaultKind.spindleFault.number ∧ actionOf 2 = some .park
      ∧ (running State.reset).cell.state = .run ∧ (running State.reset).Reaches .cell 39
      ∧ HoldsSafe (running State.reset) ∧ State.reset.cell.state ≠ .run
      ∧ (let s := withFault holding .encoderError false .note true false
         s.Reaches .cell 39 ∧ HoldsSafe s ∧ s.cell.state = .hold ∧ (s.fault .encoderError).enabled = false
           ∧ (s.fault .encoderError).active = true ∧ FaultKind.encoderError.persistent = true) := by decide

theorem test_witness_FaultClearClearsTheLatch :
    State.reset.Reaches .cell 40 ∧ HoldsSafe State.reset ∧ (0 : Byte).toNat < 1 ∧ 12 < (13 : Byte).toNat
      ∧ (12 : Byte).toNat = FaultKind.rejectFull.number
      ∧ (let s := { State.reset with cell := { (withFault State.reset .grantExpired true .hold false true).cell with
                      state := .hold, holds := { HoldSet.empty with fault := true } } }
         s.Reaches .cell 40 ∧ HoldsSafe s ∧ (3 : Byte).toNat = FaultKind.grantExpired.number ∧ s.cell.state = .hold
           ∧ (after (.faultClear .cell 3) s).cell.state = .run) := by decide

theorem test_witness_SetLimitsPutsAllFourInForce :
    (let s := withQueue (board1 .hanging [.cut, .uncut])
     s.Reaches .cell 41 ∧ s.hangCommitted = 1 ∧ min 8 (1 : Byte).toNat = 1)
    ∧ (let s := withBoard { board1 .hanging [.cut, .uncut] with xout := true }
       let t := { s with panels := { s.panels with records := s.panels.records.set 1 (some
         { panel1 (.active .b) [board1 .hanging [.cut, .uncut]] with serial := 8 }) } }
       t.Reaches .cell 41 ∧ min 8 (1 : Byte).toNat < t.hangCommitted)
    ∧ (let s := { State.reset with magazine := { State.reset.magazine with binCount := 2 } }
       s.Reaches .cell 41 ∧ (1 : Byte).toNat < s.placesInUse ∧ s.placesInUse ≤ (2 : Byte).toNat
         ∧ (2 : Byte).toNat = s.magazine.binCount ∧ s.magazine.binCapacity ≠ s.magazine.binCount
         ∧ s.hangCommitted ≤ min 8 (255 : Byte).toNat) := by decide

/-! ### The hypotheses of the statements: recipes and panels -/

/-- An OPEN recipe in slot 4, nothing else. -/
def opened : State := { State.reset with recipes := State.reset.recipes.set 3 (.opened recipe1) }

theorem test_panelsSafe : PanelsSafe State.reset ∧ PanelsSafe opened
  ∧ PanelsSafe (withBoard (board1 .cutting [.uncut, .uncut])) :=
  ⟨panelsSafe_of_check _ (by decide), panelsSafe_of_check _ (by decide), panelsSafe_of_check _ (by decide)⟩

/-- In this state no record names a slot other than 1. -/
theorem test_slotFree (r : Fin 4) (panel : Panel) (h : (withBoard (board1 .cutting [.uncut, .uncut])).panels.records[r] = some panel) :
    panel.recipe ≠ 3 := by
  revert panel h
  match r with
  | 0 => intro panel h; cases h; decide
  | 1 => nofun
  | 2 => nofun
  | 3 => nofun

theorem test_witness_RecipeIsOpenedAndFilled :
    State.reset.Reaches .cell 16 ∧ (0 : Byte).toNat < 1 ∧ 4 < (5 : Byte).toNat ∧ 48 < (49 : Byte).toNat
      ∧ (4 : Byte).toNat = (3 : Fin 4).val + 1 ∧ (48 : Byte).toNat ≤ 48
      ∧ (withBoard (board1 .cutting [.uncut, .uncut])).Reaches .cell 16
      ∧ (∃ (r : Fin 4) (panel : Panel), (withBoard (board1 .cutting [.uncut, .uncut])).panels.records[r] = some panel
          ∧ panel.recipe = 0)
      ∧ PanelsSafe opened ∧ opened.Reaches .cell 17 ∧ opened.Reaches .cell 18
      ∧ opened.recipes[(3 : Fin 4)] = .opened recipe1 ∧ (∀ r, opened.recipes[(2 : Fin 4)] ≠ .opened r)
      ∧ recipe1.header.boardCount < (2 : Byte).toNat ∧ (1 : Byte).toNat ≤ recipe1.header.boardCount
      ∧ 8 < (9 : Byte).toNat ∧ (8 : Byte).toNat = (7 : Fin 8).val + 1 :=
  ⟨by decide, by decide, by decide, by decide, by decide, by decide, by decide, ⟨0, _, rfl, rfl⟩, test_panelsSafe.2.1,
    by decide, by decide, rfl, nofun, by decide⟩

theorem test_witness_RecipeCloseValidates :
    opened.Reaches .cell 19 ∧ PanelsSafe opened ∧ (4 : Byte).toNat = (3 : Fin 4).val + 1
      ∧ (∀ r, opened.recipes[(2 : Fin 4)] ≠ .opened r) ∧ opened.recipes[(3 : Fin 4)] = .opened recipe1
      ∧ recipe1.failure = none
      ∧ { recipe1 with header := { recipe1.header with rpm := 60001 } }.failure = some (0, 0, .value)
      ∧ { recipe1 with items := [BoardItem.blank] }.failure = some (1, 0, .missing)
      ∧ { recipe1 with items := [{ item1 with tabs := item1.tabs.set 1 (some (tabOf 0)) }] }.failure
          = some (1, 0, .noHold) :=
  ⟨by decide, test_panelsSafe.2.1, by decide, nofun, rfl, by decide⟩

theorem test_witness_RecipeEraseEmptiesTheSlot :
    opened.Reaches .cell 20 ∧ (0 : Byte).toNat < 1 ∧ 4 < (5 : Byte).toNat ∧ (4 : Byte).toNat = (3 : Fin 4).val + 1
      ∧ (withBoard (board1 .cutting [.uncut, .uncut])).Reaches .cell 20
      ∧ (∃ (r : Fin 4) (panel : Panel), (withBoard (board1 .cutting [.uncut, .uncut])).panels.records[r] = some panel
          ∧ panel.recipe = 0)
      ∧ (∀ (r : Fin 4) (panel : Panel), (withBoard (board1 .cutting [.uncut, .uncut])).panels.records[r] = some panel →
          panel.recipe ≠ 3) :=
  ⟨by decide, by decide, by decide, by decide, by decide, ⟨0, _, rfl, rfl⟩, test_slotFree⟩

/-- The cell ready to start a panel of recipe1, and with every record taken. -/
def startable : State := withRecipe (inCell State.reset .standby)

def fullTable : State :=
  let p := fun n => some { panel1 .draining [board1 .loose [.cut, .cut]] with serial := n }
  { startable with panels := { records := #v[p 1, p 2, p 3, p 4], startOrder := [0, 1, 2, 3] } }

/-- A recipe whose only board has no free tab, so that it starts in HANGING. -/
def holdOnly : State :=
  let item := { item1 with tabs := item1.tabs.set 0 (some (tabOf 1)) }
  { startable with recipes := startable.recipes.set 0 (.valid { recipe1 with items := [item] }) }

theorem test_witness_PanelStartMakesARecord :
    startable.Reaches .cell 22 ∧ (3 : Byte) ≠ 1 ∧ (3 : Byte) ≠ 2 ∧ (1 : Byte).toNat = (0 : Fin 4).val + 1
      ∧ State.reset.Reaches .cell 22 ∧ State.reset.cell.state = .unconfigured ∧ startable.cell.state ≠ .unconfigured
      ∧ (withBoard (board1 .cutting [.uncut, .uncut])).Reaches .cell 22
      ∧ ((withBoard (board1 .cutting [.uncut, .uncut])).recordOnFixture .a).isSome = true
      ∧ ((withBoard (board1 .cutting [.uncut, .uncut])).recordOfSerial (7 : Word32).toNat).isSome = true
      ∧ startable.recordOnFixture .b = none ∧ startable.recordOfSerial (4294967295 : Word32).toNat = none
      ∧ (∀ r, startable.recipes[(1 : Fin 4)] ≠ .valid r) ∧ startable.recipes[(0 : Fin 4)] = .valid recipe1
      ∧ (∃ x ∈ [(2 : Byte)], x.toNat < 1 ∨ recipe1.header.boardCount < x.toNat)
      ∧ (∀ x ∈ [(1 : Byte)], 1 ≤ x.toNat ∧ x.toNat ≤ recipe1.header.boardCount)
      ∧ fullTable.Reaches .cell 22 ∧ fullTable.recordOnFixture .a = none ∧ fullTable.recordOfSerial 7 = none
      ∧ (∀ n : Fin 4, fullTable.panels.records[n] ≠ none) ∧ startable.panels.records[(0 : Fin 4)] = none
      ∧ startable.hangCommitted + (hangingBoards (recipe1.newBoards [])).length ≤ startable.scheduler.hangLimit
      ∧ (let s := { holdOnly with scheduler := { holdOnly.scheduler with hangLimit := 0 } }
         s.Reaches .cell 22 ∧ (s.recipes[(0 : Fin 4)].contents.map fun r =>
           decide (s.scheduler.hangLimit < s.hangCommitted + (hangingBoards (r.newBoards [])).length)) = some true) := by
  refine ⟨by decide, by decide, by decide, by decide, by decide, by decide, by decide, by decide, by decide, by decide,
    by decide, by decide, nofun, rfl, by decide, by decide, by decide, by decide, by decide, by decide, by decide,
    by decide, by decide⟩

theorem test_witness_BoardMovesReexamineTheRecord :
    ∃ panel board, (withBoard (board1 .bound [.cut, .cut])).panels.records[(0 : Fin 4)] = some panel
      ∧ nth1 panel.boards 1 = some board
      ∧ (((withBoard (board1 .bound [.cut, .cut])).moveBoard 0 1 .rejected).panels.records[(0 : Fin 4)].map (·.state))
          = some .finished :=
  ⟨_, _, rfl, rfl, by decide⟩

theorem test_witness_PanelsEndByAbortAndResult :
    (let s := withWindow (withClaim (board1 .held [.cut, .granted])) [grant1 1 true true]
     s.Reaches .cell 23 ∧ s.selected (.serial 8) = none ∧ s.selected .fixtureA = some 0
       ∧ (s.panels.records[(0 : Fin 4)].map (·.state.isActive)) = some true
       ∧ (s.claimed.map fun l => (l.record, l.board.state.attached)) = some (0, true)
       ∧ (∃ g ∈ s.scheduler.window, g.serial = 7 ∧ g.live = true))
    ∧ (let s := withPanel State.reset (panel1 .draining [board1 .loose [.cut, .cut]])
       s.Reaches .cell 23 ∧ s.selected (.serial 7) = some 0
         ∧ (s.panels.records[(0 : Fin 4)].map (·.state.isActive)) = some false)
    ∧ (let s := withPanel State.reset (panel1 .finished [board1 .lost [.cut, .cut]])
       s.Reaches .cell 24 ∧ s.recordOfSerial (8 : Word32).toNat = none ∧ s.recordOfSerial (7 : Word32).toNat = some 0
         ∧ (s.panels.records[(0 : Fin 4)].map (·.state)) = some .finished
         ∧ (∀ g ∈ s.scheduler.window, g.serial ≠ (7 : Word32).toNat)
         ∧ (∃ g ∈ (withWindow s [grant1 1 true false]).scheduler.window, g.serial = (7 : Word32).toNat)) := by decide

theorem test_witness_ResolveTabSettlesASuspectTab :
    (let s := withBoard (board1 .cutting [.suspect, .uncut])
     s.Reaches .cell 25 ∧ s.locateSelected .fixtureB 1 = none ∧ (s.locateSelected .fixtureA 1).isSome = true
       ∧ ((s.locateSelected .fixtureA 1).bind fun l => nth1 l.board.tabs 3) = none
       ∧ ((s.locateSelected .fixtureA 1).bind fun l => nth1 l.board.tabs 2) = some .uncut
       ∧ ((s.locateSelected .fixtureA 1).bind fun l => nth1 l.board.tabs 1) = some .suspect)
    ∧ (((withClaim (board1 .held [.cut, .suspect])).locateSelected .fixtureA 1).map fun l =>
        l.board.afterCut ((withClaim (board1 .held [.cut, .suspect])).isHold l.panel 1 2)) = some .loose
    ∧ (((withClaim (board1 .claimed [.cut, .suspect])).locateSelected .fixtureA 1).map fun l =>
        l.board.afterCut ((withClaim (board1 .claimed [.cut, .suspect])).isHold l.panel 1 2)) = some .lost
    ∧ (((withQueue (board1 .hanging [.cut, .suspect])).locateSelected .fixtureA 1).map fun l =>
        l.board.afterCut ((withQueue (board1 .hanging [.cut, .suspect])).isHold l.panel 1 2)) = some .lost
    ∧ (((withBoard (board1 .cutting [.suspect, .uncut])).locateSelected .fixtureA 1).map fun l =>
        l.board.afterCut ((withBoard (board1 .cutting [.suspect, .uncut])).isHold l.panel 1 1)) = some .hanging := by
  decide

theorem test_witness_DivertSetsTheFlag :
    (boundAt1 .bound).Reaches .cell 26 ∧ (boundAt1 .bound).locateSelected .fixtureA 2 = none
      ∧ (((boundAt1 .bound).locateSelected .fixtureA 1).map fun l => (l.board.state, l.board.divert, l.board.destination))
          = some (.bound, false, some (.slot 1))
      ∧ (((withBoard (board1 .stowed [.cut, .cut])).locateSelected .fixtureA 1).map (·.board.state.terminal)) = some true
      ∧ (((withBoard { board1 .cutting [.uncut, .uncut] with divert := true }).locateSelected .fixtureA 1).map fun l =>
          (l.board.state.terminal, l.board.divert)) = some (false, true)
      ∧ (((withBoard (board1 .cutting [.uncut, .uncut])).locateSelected .fixtureA 1).map fun l =>
          (l.board.state.terminal, l.board.divert, l.board.destination)) = some (false, false, none) := by decide

/-! ### The hypotheses of the statements: cutting, picking, the bit -/

/-- One board with these tabs, uncut counts kept in step. -/
def boardLeft (st : BoardState) (tabs : List TabState) (free hold : Nat) : Board :=
  { board1 st tabs with freeUncut := free, holdUncut := hold }

theorem test_nth1_single {x y : Board} {b : Nat} (h : nth1 [x] b = some y) : b = 1 ∧ y = x := by
  rcases b with _ | _ | b <;> simp [nth1] at h
  exact ⟨rfl, h.symm⟩

theorem test_nth1_pair {x y z : TabState} {n : Nat} (h : nth1 [x, y] n = some z) : n = 1 ∧ z = x ∨ n = 2 ∧ z = y := by
  rcases n with _ | _ | _ | n <;> simp [nth1] at h
  · exact .inl ⟨rfl, h.symm⟩
  · exact .inr ⟨rfl, h.symm⟩

/-- The hold-tab pass finds tab 2 of the HELD board, its only hold tab. -/
theorem test_witness_holdPass :
    (let s := withClaim (board1 .held [.cut, .uncut])
     ClaimSafe s ∧ s.servedPanel = some 0 ∧ s.panels.records[(0 : Fin 4)] = some (panel1 (.active .a) [board1 .held [.cut, .uncut]]))
    ∧ (withClaim (board1 .held [.cut, .uncut])).HoldEligible (panel1 (.active .a) [board1 .held [.cut, .uncut]]) 1 2
    ∧ ∀ u, (withClaim (board1 .held [.cut, .uncut])).HoldEligible (panel1 (.active .a) [board1 .held [.cut, .uncut]]) 1 u →
        2 ≤ u := by
  refine ⟨by decide, ⟨_, rfl, rfl, rfl, rfl, by decide⟩, ?_⟩
  rintro u ⟨y, hb, -, -, hu, -⟩
  obtain ⟨-, rfl⟩ := test_nth1_single hb
  rcases test_nth1_pair hu with ⟨rfl, h⟩ | ⟨rfl, -⟩
  · simp at h
  · exact Nat.le_refl 2

/-- Without a HELD board the hold-tab pass finds nothing, and the free-tab pass finds tab 1. -/
theorem test_witness_freePass :
    (let s := withBoard (board1 .cutting [.uncut, .uncut])
     ClaimSafe s ∧ s.servedPanel = some 0 ∧ s.hangCommitted < s.scheduler.hangLimit)
    ∧ (∀ b t, ¬ (withBoard (board1 .cutting [.uncut, .uncut])).HoldEligible
          (panel1 (.active .a) [board1 .cutting [.uncut, .uncut]]) b t)
    ∧ (withBoard (board1 .cutting [.uncut, .uncut])).FreeEligible
          (panel1 (.active .a) [board1 .cutting [.uncut, .uncut]]) 1 1 1
    ∧ ∀ q c u, (withBoard (board1 .cutting [.uncut, .uncut])).FreeEligible
          (panel1 (.active .a) [board1 .cutting [.uncut, .uncut]]) q c u →
        1 < q ∨ (1 = q ∧ (1 < c ∨ (1 = c ∧ 1 ≤ u))) := by
  refine ⟨by decide, ?_, ⟨_, rfl, rfl, rfl, rfl, rfl, by decide, .inr (by decide)⟩, ?_⟩
  · rintro b u ⟨y, hb, hs, -⟩
    obtain ⟨-, rfl⟩ := test_nth1_single hb
    simp [board1] at hs
  · rintro q c u ⟨y, hb, hq, -, -, hu, -⟩
    obtain ⟨rfl, rfl⟩ := test_nth1_single hb
    subst hq
    rcases test_nth1_pair hu with ⟨rfl, -⟩ | ⟨rfl, -⟩ <;> simp [board1]

/-- A served panel in which neither pass finds a tab: the free tab is GRANTED and the board is not HELD. -/
theorem test_witness_noPass :
    (let s := withBoard (board1 .cutting [.granted, .uncut])
     ClaimSafe s ∧ s.servedPanel = some 0 ∧ (running State.reset).servedPanel = none ∧ ClaimSafe (running State.reset))
    ∧ (∀ b t, ¬ (withBoard (board1 .cutting [.granted, .uncut])).HoldEligible
          (panel1 (.active .a) [board1 .cutting [.granted, .uncut]]) b t)
    ∧ ∀ r b t, ¬ (withBoard (board1 .cutting [.granted, .uncut])).FreeEligible
          (panel1 (.active .a) [board1 .cutting [.granted, .uncut]]) r b t := by
  refine ⟨by decide, ?_, ?_⟩
  · rintro b u ⟨y, hb, hs, -⟩
    obtain ⟨-, rfl⟩ := test_nth1_single hb
    simp [board1] at hs
  · rintro q c u ⟨y, hb, -, -, -, hu, hh, -⟩
    obtain ⟨rfl, rfl⟩ := test_nth1_single hb
    rcases test_nth1_pair hu with ⟨rfl, h⟩ | ⟨rfl, -⟩
    · simp at h
    · revert hh
      decide

theorem test_witness_ChosenTabIsEligible :
    ((withBoard (board1 .cutting [.uncut, .uncut])).chooseTab.map fun c => (c.board, c.tab, c.hold)) = some (1, 1, false)
      ∧ ((withClaim (board1 .held [.cut, .uncut])).chooseTab.map fun c => (c.board, c.tab, c.hold)) = some (1, 2, true) := by
  decide

theorem test_witness_nextCut :
    State.reset.Reaches .router 48 ∧ PanelsSafe State.reset ∧ State.reset.cell.state ≠ .run
      ∧ PanelsSafe (withBoard (board1 .cutting [.uncut, .uncut]))
      ∧ (let s := withBoard (board1 .cutting [.uncut, .uncut])
         s.Reaches .router 48 ∧ s.cell.state = .run ∧ s.spindle.state = .atSpeed ∧ s.bit.worn = false
           ∧ (spindleAt s .ramping).spindle.state ≠ .atSpeed ∧ (wornBit s).bit.worn = true
           ∧ 2 ≤ (withWindow s [grant1 1 true true, grant1 2 true true]).scheduler.window.length
           ∧ s.scheduler.window.length < 2 ∧ (running State.reset).chooseTab = none
           ∧ (s.chooseTab.map fun c => (s.tabDef c.panel c.board c.tab, s.recipeOf c.panel, nth1 c.panel.boards c.board))
               = some (some (tabOf 0), some recipe1, some (board1 .cutting [.uncut, .uncut]))) :=
  ⟨by decide, test_panelsSafe.1, by decide, test_panelsSafe.2.2, by decide⟩

theorem test_witness_NewlyServedPanelHandsOverItsRpm :
    (let s := withBoard (board1 .cutting [.uncut, .uncut])
     State.reset.servedPanel = none ∧ s.servedPanel = some 0 ∧ State.reset.servedPanel ≠ s.servedPanel
       ∧ ((s.panels.records[(0 : Fin 4)]).bind s.recipeOf) = some recipe1 ∧ s.spindle.state = .atSpeed
       ∧ (State.reset.handOver s).spindle.recipeRpm = 30000 ∧ (State.reset.handOver s).spindle.state = .ramping)
    ∧ (spindleAt (withBoard (board1 .cutting [.uncut, .uncut])) .kick).spindle.state ≠ .atSpeed
    ∧ (let i := Instr.panelStart .cell 2 1 51200 []
       let t := after i startable
       i.resets = false ∧ startable.servedPanel = none ∧ t.servedPanel = some 0 ∧ startable.servedPanel ≠ t.servedPanel
         ∧ ((t.panels.records[(0 : Fin 4)]).bind t.recipeOf) = some recipe1 ∧ t.spindle.recipeRpm = 30000
         ∧ t.spindle.commanded ≠ startable.spindle.commanded) := by decide

theorem test_witness_panelStartHasANextState : ∃ t, exec (.panelStart .cell 2 1 51200 []) startable = .next t := ⟨_, rfl⟩

theorem test_witness_ReportsAndCutAbort :
    (let s := withWindow (withBoard (board1 .cutting [.granted, .granted])) [grant1 255 false true, grant1 1 true true]
     s.Reaches .router 49 ∧ s.Reaches .router 50 ∧ (∀ g ∈ s.scheduler.window, g.tag ≠ (2 : Byte).toNat)
       ∧ (grant1 255 false true).tag ≠ (1 : Byte).toNat ∧ (∃ n ∈ [grant1 1 true true], n.tag = (1 : Byte).toNat)
       ∧ s.scheduler.window = [grant1 255 false true, grant1 1 true true]
       ∧ (grant1 255 false true).tag = (255 : Byte).toNat
       ∧ ((s.locateId id1).bind fun l => nth1 l.board.tabs 1) = some .granted)
    ∧ ((withBoard (board1 .abandoned [.granted, .uncut])).locateId id1).map (·.board.state) = some .abandoned := by decide

theorem test_witness_CutDoneAccountsTheCut :
    (let s := withWindow (withBoard (board1 .cutting [.granted, .uncut])) [grant1 255 false true]
     s.Reaches .router 49 ∧ s.scheduler.window = [grant1 255 false true]
       ∧ (grant1 255 false true).tag = (255 : Byte).toNat
       ∧ ((s.locateId id1).bind fun l => nth1 l.board.tabs 1) = some .granted
       ∧ ((s.locateId id1).map fun l => l.board.afterCut (s.isHold l.panel 1 1)) = some .hanging
       ∧ (let nearly := { s with bit := { s.bit with record := { s.bit.record with wear := 1999965 } } }
          nearly.bit.worn = false ∧ nearly.bit.record.params.endOfLife ≤ min 4294967295 (nearly.bit.record.wear + 35)))
    ∧ (let s := withWindow (withPanel (running State.reset) (panel1 .finished [board1 .abandoned [.granted, .cut]]))
                  [grant1 3 false false]
       s.Reaches .router 49 ∧ ((s.locateId id1).map (·.board.state)) = some .abandoned) := by decide

theorem test_witness_GrantExpiryMakesTheTabSuspect :
    (let s := withWindow (withBoard (board1 .cutting [.granted, .uncut])) [grant1 1 false true]
     s.starting = false ∧ s.scheduler.window = [grant1 1 false true] ∧ s.scheduler.expiry = some { ms := 1, us := 999 }
       ∧ (s.fault .grantExpired).enabled = true
       ∧ ((s.locateId id1).bind fun l => nth1 l.board.tabs 1) = some .granted)
    ∧ State.reset.scheduler.window = [] := by decide

theorem test_witness_ClaimsTakeAHangingBoard :
    (let s := withQueue (board1 .hanging [.cut, .uncut])
     s.gripper.queue = [] ++ id1 :: [] ∧ ((s.locateId id1).map fun l => (l.board.review, l.record)) = some (none, 0)
       ∧ s.servedPanel = some 0 ∧ s.Reaches .pick 56 ∧ s.gripper.claim = none ∧ s.nextClaim.isSome = true
       ∧ s.Reaches .pick 57 ∧ s.locateId { serial := (8 : Word32).toNat, board := (1 : Byte).toNat } = none
       ∧ (s.locateId { serial := (7 : Word32).toNat, board := (1 : Byte).toNat }).map (·.board.state) = some .hanging)
    ∧ (let s := withQueue (board1 .hanging [.cut, .granted])
       s.servedPanel = some 0 ∧ (withQueue (board1 .hanging [.cut, .cut])).servedPanel = none
         ∧ (withQueue (board1 .hanging [.cut, .cut])).nextClaim.isSome = true)
    ∧ (let s := withQueue { board1 .hanging [.cut, .suspect] with review := some .suspectTab }
       s.nextClaim = none ∧ s.gripper.claim = none ∧ s.Reaches .pick 56 ∧ s.Reaches .pick 57
         ∧ ((s.locateId id1).map (·.board.review)) = some (some .suspectTab))
    ∧ (withClaim (board1 .claimed [.cut, .uncut])).gripper.claim.isSome = true
    ∧ ((withBoard (board1 .cutting [.uncut, .uncut])).locateId id1).map (·.board.state) = some .cutting := by decide

theorem test_witness_ClaimedBoardIsGrippedReleasedOrRejected :
    (let s := withClaim (board1 .claimed [.cut, .uncut])
     s.Reaches .pick 58 ∧ s.Reaches .pick 59 ∧ s.Reaches .pick 60 ∧ s.Reaches .pick 61 ∧ s.Reaches .pick 62
       ∧ s.Reaches .pick 63
       ∧ s.locateId { serial := 7, board := 2 } = none ∧ (s.locateId id1).isSome = true ∧ s.gripper.claim = some id1
       ∧ (withBoard (board1 .hanging [.cut, .uncut])).gripper.claim ≠ some id1
       ∧ ((s.locateId id1).map (·.board.state)) = some .claimed)
    ∧ (let s := withWindow (withClaim (board1 .held [.cut, .granted])) [grant1 1 true true]
       s.gripper.claim = some id1 ∧ ((s.locateId id1).map (·.board.state)) = some .held
         ∧ (∃ g ∈ s.scheduler.window, g.hold = true ∧ g.serial = 7 ∧ g.board = 1 ∧ g.live = true))
    ∧ (let s := withClaim { board1 .bound [.cut, .cut] with destination := some .reject, xout := true }
       s.Reaches .pick 61
         ∧ ((s.locateId id1).map fun l => (l.board.state, l.board.destination)) = some (.bound, some .reject)
         ∧ s.magazine.binCount + 1 ≠ s.magazine.binCapacity
         ∧ ({ s with magazine := { s.magazine with binCapacity := 1 } }).magazine.binCount + 1 = 1) := by decide

theorem test_witness_DestinationBindsTheLooseBoard :
    (let s := withMagazine (withClaim (board1 .loose [.cut, .cut])) (session1 [.filled id1, .empty, .empty])
     s.Reaches .pick 60 ∧ s.gripper.claim = some id1
       ∧ ((s.locateId id1).map fun l => (l.board.state, l.board.toBin)) = some (.loose, false)
       ∧ s.runFor 1 = some 2 ∧ s.runFor 2 = some 2 ∧ s.runFor 3 = none
       ∧ (s.magazine.session.map fun m => decide (m.slots.length = m.type.slotCount)) = some true)
    ∧ (let s := withClaim (board1 .loose [.cut, .cut])
       s.Reaches .pick 60 ∧ s.magazine.session = none ∧ s.runFor 1 = none)
    ∧ (let s := withMagazine (withClaim (board1 .loose [.cut, .cut])) { session1 [.empty, .empty, .empty] with condemned := true }
       s.runFor 1 = none)
    ∧ (let s := withClaim { board1 .loose [.cut, .cut] with xout := true }
       ((s.locateId id1).map fun l => (l.board.state, l.board.xout || l.board.divert)) = some (.loose, true)
         ∧ s.magazine.binCount < s.magazine.binCapacity
         ∧ ({ s with magazine := { s.magazine with binCount := 20 } }).magazine.binCapacity ≤ 20)
    ∧ ((boundAt1 .bound).locateId id1).map (fun l => (l.board.state, l.board.destination)) = some (.bound, some (.slot 1))
    ∧ ((withClaim { board1 .bound [.cut, .cut] with destination := some .reject }).locateId id1).map
        (fun l => (l.board.state, l.board.destination)) = some (.bound, some .reject)
    ∧ ((withClaim (board1 .held [.cut, .uncut])).locateId id1).map (·.board.state) = some .held := by decide

theorem test_witness_BitChangeAndSetup :
    State.reset.Reaches .cell 27 ∧ State.reset.bit.record.params.endOfLife ≤ (2000000 : Word32).toNat
      ∧ (1999999 : Word32).toNat < State.reset.bit.record.params.endOfLife
      ∧ ¬ (State.reset.cell.state = .standby ∨ State.reset.cell.state = .park)
      ∧ (inCell State.reset .standby).Reaches .cell 27 ∧ (inCell State.reset .standby).cell.state = .standby
      ∧ (inCell State.reset .standby).scheduler.window = []
      ∧ (withWindow (inCell State.reset .park) [grant1 1 true false]).scheduler.window ≠ []
      ∧ (inCell State.reset .park).Reaches .cell 28 ∧ (inCell State.reset .park).bit.worn = false
      ∧ (let p : BitParams := { levels := 6, span := 10000000, baseDepth := 1000, levelStep := 100, derateStart := 99999999,
                                endOfLife := 100000000, minFeed := 1000 }
         p.inRange = true ∧ { p with levels := 7 }.inRange = false)
      ∧ (inCell State.reset .park).bit.record.wear < (1 : Word32).toNat
      ∧ (1 : Word32).toNat ≤ ({ BitRecord.builtIn with wear := 1 }).wear := by decide

theorem test_witness_DepthAndFeedOfAGrant :
    1 ≤ BitRecord.builtIn.params.levels ∧ 1 ≤ BitRecord.builtIn.params.span
      ∧ 2 * BitRecord.builtIn.params.span ≤ ({ BitRecord.builtIn with wear := 299999 }).wear
      ∧ ({ BitRecord.builtIn with wear := 299999 }).wear < (2 + 1) * BitRecord.builtIn.params.span
      ∧ ({ BitRecord.builtIn.params with levels := 1 }).levels = 1
      ∧ BitRecord.builtIn.params.derateStart < BitRecord.builtIn.params.endOfLife
      ∧ ({ BitRecord.builtIn with wear := 1000001 }).wear < BitRecord.builtIn.params.endOfLife
      ∧ BitRecord.builtIn.params.derateStart < ({ BitRecord.builtIn with wear := 1000001 }).wear
      ∧ ({ BitRecord.builtIn with wear := 1000000 }).wear ≤ BitRecord.builtIn.params.derateStart
      ∧ 99 < BitRecord.builtIn.params.minFeed ∧ BitRecord.builtIn.params.minFeed ≤ 100 := by decide

/-! ### The hypotheses of the statements: the spindle loop -/

/-- The loop in a state, with a measurement in progress and the reference at the commanded 6,000 rpm: the target is
20,000 and the window 625. -/
def looping (st : SpindleState) (count : Nat) (synchronised : Bool) : State :=
  let s := running State.reset
  { s with spindle := { s.spindle with
      state := st, duty := 300, measurement := some { count := count, edges := 1, synchronised := synchronised } } }

/-- One measurement short of a strain fault in RAMPING, and of leaving AT_SPEED. -/
def strained (st : SpindleState) : State :=
  let s := looping st 0 true
  { s with spindle := { s.spindle with strain := 3, miss := 2 } }

/-- Both timers of the loop in their last cycle. -/
def timed (st : SpindleState) : State :=
  let s := looping st 0 true
  { s with spindle := { s.spindle with
      kickTimer := some { ms := 1, us := 999 }, settleTimer := some { ms := 1, us := 999 } } }

theorem test_witness_TargetCountAndWindow :
    (6000 : Nat) ≤ 6000 ∧ 6000 ≤ 60000 ∧ 60000 ≤ 60000 ∧ targetCount 4 6000 = 40000 ∧ targetCount 1 60000 = 1000
      ∧ targetCount 2 7000 = 17143 := by decide

theorem test_witness_CompletedMeasurementStepsTheLoop :
    (let s := looping .ramping 0 true
     s.spindle.state = .ramping ∧ s.target = 20000 ∧ s.window = 625 ∧ s.spindle.reference = s.spindle.commanded
       ∧ s.constants.spindle.stallDepth = 4 ∧ s.spindle.strain + 1 < s.constants.spindle.stallDepth
       ∧ (strained .ramping).spindle.state = .ramping
       ∧ (strained .ramping).constants.spindle.stallDepth ≤ (strained .ramping).spindle.strain + 1
       ∧ ((20625 : Int) - 20000 ≤ 625 ∧ ¬ ((20626 : Int) - 20000 ≤ 625)))
    ∧ (let s := looping .atSpeed 0 true
       s.spindle.state = .atSpeed ∧ s.constants.spindle.missDepth = 3
         ∧ s.spindle.miss + 1 < s.constants.spindle.missDepth
         ∧ (strained .atSpeed).spindle.state = .atSpeed
         ∧ (strained .atSpeed).constants.spindle.missDepth ≤ (strained .atSpeed).spindle.miss + 1) := by decide

theorem test_witness_TachAndControlPeriodDriveTheLoop :
    State.reset.starting = false ∧ State.reset.spindle.state = .stopped
      ∧ (spindleAt (running State.reset) .kick).spindle.state = .kick
      ∧ (spindleAt (running State.reset) .kick).spindle.kickEdges = 0
      ∧ 1 ≤ (after (.tachEdge 0) (spindleAt (running State.reset) .kick)).spindle.kickEdges
      ∧ (after (.tachEdge 0) (spindleAt (running State.reset) .kick)).spindle.state = .kick
      ∧ (looping .ramping 65534 true).spindle.state = .ramping ∧ (looping .ramping 65534 true).starting = false
      ∧ 65534 + (0 : Word16).toNat < 65535 ∧ 65535 ≤ 65534 + (1 : Word16).toNat
      ∧ (looping .ramping 65534 true).constants.spindle.sr ≤ 1 + 1 ∧ 0 + 1 < State.reset.constants.spindle.sr
      ∧ (looping .atSpeed 5 false).spindle.measurement = some { count := 5, edges := 1, synchronised := false }
      ∧ State.reset.spindle.measurement = none ∧ State.reset.spindle.state ≠ .ramping := by decide

theorem test_witness_SpindleFaultsAndItsReset :
    State.reset.starting = false ∧ State.reset.spindle.kickTimer = none ∧ State.reset.spindle.settleTimer = none
      ∧ (timed .kick).starting = false ∧ (timed .kick).spindle.kickTimer = some { ms := 1, us := 999 }
      ∧ (timed .ramping).starting = false ∧ (timed .ramping).spindle.settleTimer = some { ms := 1, us := 999 }
      ∧ State.reset.Reaches .cell 29 ∧ HoldsSafe State.reset ∧ State.reset.spindle.state ≠ .faulted
      ∧ (let s := after .settle (timed .ramping)
         s.spindle.state = .faulted ∧ s.cell.state = .park ∧ HoldsSafe s ∧ s.Reaches .cell 29) := by decide

/-! ### The hypotheses of the statements: the magazine -/

theorem test_witness_MagLoadedOpensASession :
    State.reset.Reaches .magazine 72 ∧ RegisterSafe State.reset ∧ (0 : Byte).toNat < 1 ∧ 4 < (5 : Byte).toNat
      ∧ (4 : Byte).toNat = (3 : Fin 4).val + 1 ∧ State.reset.magazine.session = none
      ∧ State.reset.magazine.closed = none
      ∧ (withMagazine State.reset (session1 [.empty, .empty, .empty])).magazine.session.isSome = true
      ∧ RegisterSafe (withMagazine State.reset (session1 [.empty, .empty, .empty]))
      ∧ (let s := after (.magUnload .magazine) (withMagazine State.reset (session1 [.empty, .empty, .empty]))
         s.Reaches .magazine 72 ∧ RegisterSafe s ∧ s.magazine.session = none ∧ s.magazine.closed.isSome = true
           ∧ (s.magazine.register.find? fun e => e.tag == (9 : Word32).toNat).isSome = true
           ∧ (s.magazine.register.find? fun e => e.tag == (4 : Word32).toNat) = none)
      ∧ RegisterSafe { State.reset with magazine := { State.reset.magazine with
          register := (List.range 16).map fun n => { tag := n, type := 1, retired := [], condemned := false } } } := by
  decide

/-- The running cell with a board in doubt at slots 2 and 3. -/
def doubtful : State :=
  withMagazine (withBoard { board1 .verifying [.cut, .cut] with destination := some (.slot 2), height := 2, review := some .seatDoubt })
    (session1 [.empty, .doubt id1, .doubt id1])

theorem test_witness_ResolveSlotSettlesADoubt :
    doubtful.Reaches .cell 30 ∧ 1 < (2 : Byte).toNat ∧ State.reset.Reaches .cell 30
      ∧ State.reset.magazine.session = none
      ∧ (doubtful.magazine.session.map (·.type.slotCount)) = some 3 ∧ (0 : Byte).toNat < 1 ∧ 3 < (4 : Byte).toNat
      ∧ ((doubtful.magazine.session.bind fun m => nth1 m.slots 1).map (·.state)) = some .empty
      ∧ ((doubtful.magazine.session.bind fun m => nth1 m.slots 2).map fun x => (x.state, x.failures)) = some (.doubt id1, 0)
      ∧ ((doubtful.magazine.session.bind fun m => nth1 m.slots 3).map (·.state)) = some (.doubt id1)
      ∧ ((doubtful.locateId id1).map (·.id)) = some id1
      ∧ answerOf (.resolveSlot .cell 2 0) doubtful .cell = some (.accepted, [0, 0, 0, 7, 1, 8])
      ∧ answerOf (.resolveSlot .cell 2 1) doubtful .cell = some (.accepted, [0, 0, 0, 7, 1, 10]) := by decide

/-- The insertion of a board at a slot that has failed once, in a magazine with so many slots listed. -/
def failingFor (divert : Bool) (retired : List Nat) (condemned : Bool) : State :=
  let s := inserting1 false divert []
  let m := { session1 [.reserved id1, .empty, .empty] with
    slots := [{ state := .reserved id1, failures := 1 }, { state := .empty, failures := 0 }, { state := .empty, failures := 0 }]
    condemned := condemned }
  { s with magazine := { s.magazine with session := some m, register := [{ tag := 9, type := 1, retired := retired, condemned := condemned }] } }

def failing : List Nat → Bool → State := failingFor false

/-- The board in doubt at slots 2 and 3, slot 2 having failed once. -/
def doubtfulAgain (retired : List Nat) (condemned : Bool) : State :=
  let m := session1 [.empty, .doubt id1, .doubt id1]
  { doubtful with magazine := { doubtful.magazine with
      session := some { m with slots := modify1 m.slots 2 fun x => { x with failures := 1 }, condemned := condemned }
      register := [{ tag := 9, type := 1, retired := retired, condemned := condemned }] } }

/-- What the second seat failure of a slot needs, in both requests. -/
theorem test_witness_secondFailure :
    (let s := failing [4, 5] false
     s.Reaches .pick 63 ∧ s.gripper.claim = some id1
       ∧ ((s.locateId { serial := (7 : Word32).toNat, board := (1 : Byte).toNat }).map fun l =>
           (l.id, l.board.state, l.board.destination, l.board.divert)) = some (id1, .inserting, some (.slot 1), false)
       ∧ ((s.magazine.session.bind fun m => nth1 m.slots 1).map fun x => (x.state, x.failures)) = some (.reserved id1, 1)
       ∧ ((s.magazine.session.bind fun m => s.magazine.register.find? (·.tag == m.tag)).map (·.retired.length)) = some 2)
    ∧ (((failingFor true [4, 5, 6, 7, 8, 9, 10, 11] false).locateId id1).map (·.board.divert)) = some true
    ∧ (let s := doubtfulAgain [4, 5] false
       s.Reaches .cell 30
         ∧ ((s.magazine.session.bind fun m => nth1 m.slots 2).map fun x => (x.state, x.failures)) = some (.doubt id1, 1)
         ∧ ((s.magazine.session.bind fun m => nth1 m.slots 1).map (·.state)) = some .empty
         ∧ ((s.locateId id1).map (·.id)) = some id1
         ∧ ((s.magazine.session.bind fun m => s.magazine.register.find? (·.tag == m.tag)).map (·.retired.length)) = some 2)
    ∧ ((doubtfulAgain [] true).magazine.session.map (·.condemned)) = some true := by decide

/-- The second seat failure, at an aborted insertion and at a board found absent. -/
theorem test_secondFailure :
    answerOf (.insertEndAborted .pick 7 1) (failing [4, 5] false) .pick = some (.accepted, [4, 0, 0, 0, 0])
      ∧ answerOf (.insertEndAborted .pick 7 1) (failing [4, 5, 6, 7, 8, 9, 10, 11] false) .pick
          = some (.accepted, [5, 1, 0, 0, 0, 2])
      ∧ ((after (.resolveSlot .cell 2 1) (doubtfulAgain [4, 5] false)).magazine.session.map fun m => m.slots.map (·.state))
          = some [.empty, .retired, .empty]
      ∧ ((after (.resolveSlot .cell 2 1) (doubtfulAgain [4, 5] false)).magazine.register.map (·.retired)) = [[2, 4, 5]] := by
  decide

theorem test_witness_SeatFailuresRetireOrCondemn :
    ((failing [4, 5, 6, 7, 8, 9, 10] false).magazine.session.bind fun m => nth1 m.slots 1)
        = some { state := .reserved id1, failures := 1 }
      ∧ ((failing [] false).magazine.register.find? (·.tag == 9)).isSome = true ∧ RegisterSafe (failing [] false)
      ∧ min 2 (1 + 1) = 2 ∧ min 2 (0 + 1) < 2
      ∧ ([4, 5, 6, 7, 8, 9, 10] : List Nat).length < 8 ∧ 8 ≤ ([4, 5, 6, 7, 8, 9, 10, 11] : List Nat).length
      ∧ ((failing [] true).magazine.session.map (·.condemned)) = some true
      ∧ (((failing [] false).locateId id1).map (·.id)) = some id1
      ∧ ((failing [] false).seatFailure 1).magazine.register = [{ tag := 9, type := 1, retired := [1], condemned := false }]
      ∧ (((failing [4, 5, 6, 7, 8, 9, 10, 11] false).seatFailure 1).magazine.session.map (·.condemned)) = some true := by
  decide

theorem test_witness_UnloadManifestBinAndRepair :
    State.reset.Reaches .magazine 73 ∧ State.reset.magazine.session = none
      ∧ (let s := withMagazine State.reset (session1 [.filled id1, .empty, .retired])
         s.Reaches .magazine 73 ∧ (∀ m, s.magazine.session = some m → m = session1 [.filled id1, .empty, .retired])
           ∧ s.insertion.insertion = none)
      ∧ (∃ x ∈ (session1 [.empty, .doubt id1, .doubt id1]).slots, ∃ id, x.state = .reserved id ∨ x.state = .doubt id)
      ∧ ¬ (∃ x ∈ (session1 [.filled id1, .empty, .retired]).slots, ∃ id, x.state = .reserved id ∨ x.state = .doubt id)
      ∧ State.reset.Reaches .cell 32 ∧ State.reset.magazine.closed = none ∧ readable.magazine.closed.isSome = true
      ∧ readable.Reaches .cell 32 ∧ State.reset.Reaches .cell 33 ∧ State.reset.Reaches .cell 34
      ∧ (∀ e ∈ State.reset.magazine.register, e.tag ≠ (9 : Word32).toNat)
      ∧ (∃ e ∈ readable.magazine.register, e.tag = (9 : Word32).toNat)
      ∧ (readable.magazine.session.map (·.tag)) = some (9 : Word32).toNat
      ∧ (let s := after (.magUnload .magazine) (withMagazine State.reset (session1 [.empty, .empty, .empty]))
         s.magazine.session = none ∧ (∃ e ∈ s.magazine.register, e.tag = (9 : Word32).toNat)) := by
  refine ⟨by decide, by decide, ⟨by decide, fun m h => by cases h; rfl, by decide⟩, ⟨_, .tail _ (.head _), id1, .inr rfl⟩, ?_,
    by decide, by decide, by decide, by decide, by decide, by decide, by decide, by decide, by decide, by decide⟩
  rintro ⟨x, hx, id, h⟩
  simp [session1] at hx
  rcases hx with rfl | rfl | rfl <;> simp at h

theorem test_witness_SlotPositionsAndNearestSlot :
    1 ≤ MagType.builtIn.pitch16 ∧ 1 ≤ (1 : Nat) ∧ MagType.builtIn.pos 1 = 8000 ∧ MagType.builtIn.pos 20 = 23200
      ∧ MagType.builtIn.nearest 8120 = .slot 1 ∧ MagType.builtIn.nearest 8121 = .between
      ∧ MagType.builtIn.nearest 7880 = .slot 1 ∧ MagType.builtIn.nearest 24000 = .between := by decide

/-! ### The hypotheses of the statements: the elevator and insertion control -/

theorem test_witness_EncoderTransitionsCount :
    State.reset.starting = false ∧ (State.reset.lines.encoderA, State.reset.lines.encoderB) = (false, false)
      ∧ State.reset.magazine.session = none
      ∧ (let s := inserting1 false false []
         s.starting = false ∧ s.magazine.session.isSome = true ∧ s.insertion.confirmation = some 1
           ∧ (s.insertion.insertion.map (·.disturbed)) = some false
           ∧ (s.magazine.session.map fun m => (m.type.near 8121 1, m.type.near 8120 1)) = some (false, true))
      ∧ (boundAt1 .bound).insertion.insertion = none ∧ (boundAt1 .bound).insertion.confirmation = none := by decide

theorem test_witness_IllegalTransitionsBreakTheCount :
    State.reset.starting = false ∧ (State.reset.fault .encoderError).active = false
      ∧ (State.reset.fault .encoderError).enabled = true
      ∧ ((after .illegalTransition State.reset).fault .encoderError).active = true
      ∧ State.reset.insertion.wait = none ∧ (waiting1 true).insertion.wait.isSome = true
      ∧ (((waiting1 true).insertion.wait.bind fun w => (waiting1 true).locateId w.board).map (·.id)) = some id1
      ∧ (waiting1 true).magazine.session.isSome = true ∧ (waiting1 true).starting = false := by decide

theorem test_witness_HomingAndMoves :
    State.reset.Reaches .magazine 74 ∧ State.reset.insertion.insertion = none ∧ State.reset.elevator.armed = false
      ∧ (inserting1 false false []).insertion.insertion.isSome = true ∧ (inserting1 false false []).Reaches .magazine 74
      ∧ (after (.homeBegin .magazine) State.reset).elevator.armed = true
      ∧ (boundAt1 .bound).elevator.homed = true ∧ (boundAt1 .bound).boundSlot = some 1
      ∧ State.reset.starting = false ∧ (after (.homeBegin .magazine) State.reset).starting = false
      ∧ (boundAt1 .bound).Reaches .magazine 75 ∧ (boundAt1 .bound).Reaches .magazine 76
      ∧ (boundAt1 .bound).insertion.insertion = none ∧ State.reset.boundSlot = none
      ∧ (boundAt1 .bound).magazine.session.isSome = true
      ∧ ((boundAt1 .bound).magazine.session.map fun m => m.type.near 8000 1) = some true
      ∧ ((boundAt1 .bound).magazine.session.map fun m => m.type.near 8121 1) = some false
      ∧ (after .illegalTransition (boundAt1 .bound)).elevator.homed = false
      ∧ (after .illegalTransition (boundAt1 .bound)).boundSlot = some 1 := by decide

theorem test_witness_SeatIsVerified :
    (let s := waiting1 true
     s.magazine.session.isSome = true ∧ ((s.locate 0 1).map (·.id)) = some id1 ∧ s.elevator.homed = true
       ∧ (s.magazine.session.map fun m => (m.type.nearest 8000, m.type.nearest 8800, m.type.nearest 8400))
           = some (.slot 1, .slot 2, .between)
       ∧ (s.magazine.session.map fun m => m.runEmpty 2 1) = some true
       ∧ ((session1 [.reserved id1, .retired, .empty]).runEmpty 2 1) = false
       ∧ s.elevator.captures = [] ∧ (s.insertion.wait.map (·.height)) = some 1
       ∧ ((s.locateId id1).map (·.board.height)) = some 1 ∧ s.starting = false)
    ∧ (waiting1 false).elevator.homed = false ∧ State.reset.insertion.wait = none
    ∧ State.reset.elevator.captures.length < 2
    ∧ 2 ≤ (inserting1 false false [8000, 8000]).elevator.captures.length
    ∧ (inserting1 false false [8000, 8000]).starting = false
    ∧ (State.reset.fault .captureOverflow).enabled = true
    ∧ (let s := waiting1 true
       let late := { s with elevator := { s.elevator with captures := [8800], counter := 8000 } }
       late.elevator.captures ++ [late.elevator.counter] = 8800 :: [8000] ∧ late.elevator.captures.length < 2
         ∧ (late.insertion.wait.map (·.first)) = some 1 ∧ late.starting = false
         ∧ ((after .seatSensorEdge late).locateId id1).map (fun l => (l.board.state, l.board.destination))
             = some (.stowed, none)
         ∧ ((after .seatSensorEdge late).magazine.session.map fun m => m.slots.map (·.state))
             = some [.empty, .filled id1, .empty]) := by decide

/-- The board BOUND to slot 1, with a move permission or with slot 1 confirmed. -/
def handshake (permission confirmed : Bool) : State :=
  let s := boundAt1 .bound
  { s with insertion := { s.insertion with
      permission := permission, confirmation := if confirmed then some 1 else none } }

theorem test_witness_InsertionsOpenAndClose :
    (let s := boundAt1 .bound
     s.Reaches .pick 62 ∧ s.gripper.claim = some id1
       ∧ (s.locateId { serial := (7 : Word32).toNat, board := (1 : Byte).toNat }).isSome = true
       ∧ ((s.locateId id1).map fun l => (l.board.state, l.board.destination)) = some (.bound, some (.slot 1))
       ∧ (handshake true false).insertion.permission = true ∧ (handshake true false).Reaches .pick 62
       ∧ s.insertion.permission = false
       ∧ s.insertion.wait = none ∧ s.insertion.confirmation ≠ some 1
       ∧ (handshake false true).insertion.permission = false ∧ (handshake false true).insertion.wait = none
       ∧ (handshake false true).insertion.confirmation = some 1 ∧ (handshake false true).Reaches .pick 62)
    ∧ ((withClaim (board1 .held [.cut, .uncut])).locateId id1).map (·.board.state) = some .held
    ∧ (let s := inserting1 false false []
       s.Reaches .pick 63 ∧ s.gripper.claim = some id1
         ∧ ((s.locateId id1).map fun l => (l.board.state, l.board.destination, l.board.divert)) = some (.inserting, some (.slot 1), false)
         ∧ s.magazine.session.isSome = true
         ∧ ((s.magazine.session.bind fun m => nth1 m.slots 1).map (·.failures)) = some 0
         ∧ (s.insertion.insertion.map (·.disturbed)) = some false ∧ s.elevator.captures = [] ∧ s.elevator.homed = true)
    ∧ (((inserting1 false true []).locateId id1).map (·.board.divert)) = some true
    ∧ ((inserting1 true false []).insertion.insertion.map (·.disturbed)) = some true
    ∧ (inserting1 false false [8000]).elevator.captures = [8000]
    ∧ (let s := inserting1 false false [8800]
       (s.magazine.session.map fun m => (m.type.nearest 8800, m.runEmpty 2 1)) = some (.slot 2, true)
         ∧ s.elevator.captures = 8800 :: []
         ∧ answerOf (.insertEndSeated .pick 7 1) s .pick = some (.accepted, [8, 2])) := by decide

/-! ### The hypotheses of the statements: frames and invariants -/

theorem test_witness_BlocksChangeByTheirOwnCommands :
    (∃ t, exec (.tachEdge 0) State.reset = .next t) ∧ (Instr.tachEdge 0).resets = false
      ∧ (after (.recipeOpen .cell 1 1 0 0 0) State.reset).recipes ≠ State.reset.recipes
      ∧ (after (.constantsWrite .cell (.cell 0 60 100 3 20)) State.reset).cell.state ≠ State.reset.cell.state
      ∧ (after .guardOpens State.reset).lines ≠ State.reset.lines
      ∧ (after .powerOn State.reset).starting ≠ State.reset.starting
      ∧ (after (.homeBegin .magazine) State.reset).elevator ≠ State.reset.elevator
      ∧ (after (.moveBegin .magazine) State.reset).insertion ≠ State.reset.insertion :=
  ⟨⟨_, rfl⟩, by decide⟩

theorem test_witness_EveryStepKeepsTheInvariants :
    SpindleSafe State.reset ∧ WindowSafe State.reset ∧ HoldsSafe State.reset ∧ HandshakeSafe State.reset
      ∧ BitSafe State.reset
      ∧ PortsSafe State.reset ∧ RegisterSafe State.reset ∧ StoreSafe State.reset ∧ PanelsSafe State.reset
      ∧ (∃ t, step { State.reset with pending := [.cellReset .cell] } = .next t)
      ∧ SpindleSafe (looping .ramping 5 true) ∧ WindowSafe (looping .ramping 5 true) ∧ HoldsSafe holding
      ∧ HandshakeSafe (inserting1 false false [8000, 8000]) ∧ BitSafe (wornBit State.reset) ∧ PortsSafe readable
      ∧ RegisterSafe readable ∧ StoreSafe (writing State.reset true)
      ∧ PanelsSafe (withBoard (board1 .cutting [.uncut, .uncut])) :=
  ⟨by decide, by decide, by decide, by decide, by decide, by decide, by decide, by decide, test_panelsSafe.1, ⟨_, rfl⟩,
    by decide, by decide, by decide, by decide, by decide, by decide, by decide, by decide, test_panelsSafe.2.2⟩

/-- DeviceSafe as a check that evaluates. -/
def deviceCheck (s : State) : Bool :=
  panelsCheck s && decide (RecipesSafe s) && decide (BoardsSafe s) && decide (ClaimSafe s) && decide (QueueSafe s)
    && decide (GrantsSafe s) && decide (HangSafe s) && decide (SlotsSafe s) && decide (ManifestSafe s)

theorem deviceSafe_of_check (s : State) (h : deviceCheck s = true) : DeviceSafe s := by
  simp only [deviceCheck, Bool.and_eq_true, decide_eq_true_eq] at h
  obtain ⟨⟨⟨⟨⟨⟨⟨⟨h0, h1⟩, h2⟩, h3⟩, h4⟩, h5⟩, h6⟩, h7⟩, h8⟩ := h
  exact ⟨panelsSafe_of_check s h0, h1, h2, h3, h4, h5, h6, h7, h8⟩

/-- A CUTTING board with a LIVE grant for its free tab. -/
def lawfulCutting : State := withWindow (withBoard (boardLeft .cutting [.granted, .uncut] 1 1)) [grant1 1 false true]

/-- A HELD board, in the claim, with a LIVE grant for its hold tab. -/
def lawfulHeld : State := withWindow (withClaim (boardLeft .held [.cut, .granted] 0 1)) [grant1 1 true true]

/-- A magazine whose slot 1 is in this state, and whose slot 2 is FILLED with a board of another panel. -/
def lawfulMagazine (s : State) (st : SlotState) : State :=
  withMagazine s { session1 [st, .filled { serial := 3, board := 1 }, .empty] with
    manifest := [{ stow := 1, first := 2, height := 1, board := { serial := 3, board := 1 } }], stow := 2 }

/-- A board BOUND to slot 1, in the claim. -/
def lawfulBound : State :=
  lawfulMagazine (withClaim { boardLeft .bound [.cut, .cut] 0 0 with destination := some (.slot 1) }) (.reserved id1)

/-- A board VERIFYING at slot 1, in a settle wait or in doubt. -/
def lawfulVerifying (waits : Bool) : State :=
  let s := lawfulMagazine (withPanel (running State.reset)
      (panel1 .draining [{ boardLeft .verifying [.cut, .cut] 0 0 with destination := some (.slot 1) }]))
    (if waits then .reserved id1 else .doubt id1)
  if waits then
    { s with insertion := { s.insertion with wait := some { board := id1, first := 1, height := 1, timer := ⟨5, 0⟩ } } }
  else s

theorem test_witness_EveryStepKeepsTheDeviceLaws :
    DeviceSafe lawfulCutting ∧ DeviceSafe lawfulHeld ∧ DeviceSafe (withQueue (boardLeft .hanging [.cut, .suspect] 0 1))
      ∧ DeviceSafe lawfulBound ∧ DeviceSafe (lawfulVerifying true) ∧ DeviceSafe (lawfulVerifying false)
      ∧ ∃ t, step { lawfulHeld with pending := [.cutDone .router 1] } = .next t :=
  ⟨deviceSafe_of_check _ (by decide), deviceSafe_of_check _ (by decide), deviceSafe_of_check _ (by decide),
    deviceSafe_of_check _ (by decide), deviceSafe_of_check _ (by decide), deviceSafe_of_check _ (by decide), _, rfl⟩

/-- What the laws forbid: a claim that names no board, a board that hangs outside the queue, a LIVE hold-tab grant for a
board that is not HELD, a hang limit below the count, a FILLED slot that the manifest does not name. -/
theorem test_deviceSafe_refuses :
    ¬ ClaimSafe (withClaim (board1 .cutting [.uncut, .uncut])) ∧ ¬ QueueSafe (withBoard (board1 .hanging [.cut, .uncut]))
      ∧ ¬ GrantsSafe (withWindow (withBoard (boardLeft .cutting [.cut, .granted] 0 1)) [grant1 1 true true])
      ∧ ¬ HangSafe { lawfulHeld with scheduler := { lawfulHeld.scheduler with hangLimit := 0 } }
      ∧ ¬ ManifestSafe (withMagazine State.reset (session1 [.filled id1, .empty, .empty]))
      ∧ ¬ SlotsSafe (withMagazine State.reset (session1 [.reserved id1, .empty, .empty]))
      ∧ ¬ BoardsSafe (withBoard (boardLeft .cutting [.cut, .uncut] 1 1)) :=
  ⟨by decide, by decide, by decide, by decide, by decide, by decide, by decide⟩

/-! ### One step of the commands, on those states -/

theorem test_ports :
    answerOf (.noop .pick) State.reset .pick = some (.accepted, [])
      ∧ answerOf (.takeEvent .magazine) State.reset .magazine = some (.accepted, [1, 2, 31])
      ∧ answerOf (.setAttention .router 16) State.reset .router = some (.refused .outOfRange, [])
      ∧ answerOf (.setAttention .router 9) State.reset .router = some (.accepted, [9, 1])
      ∧ answerOf (.nextCut .cell) State.reset .cell = some (.refused .wrongPort, [])
      ∧ answerOf (.unknownRequest .cell 46) State.reset .cell = some (.refused .unknownRequest, [])
      ∧ answerOf (.badLength .cell [0]) State.reset .cell = some (.refused .badLength, []) := by decide

theorem test_selectFalls :
    ((after (.selectFalls .cell) (after (.setAttention .cell 1) State.reset)).port .cell).line
      = .transaction { answer := { echo := 2, verdict := .accepted, body := [1, 1] }, summary := 1 } := by decide

theorem test_reads :
    answerOf (.panelRead .cell 1) State.reset .cell = some (.accepted, [0])
      ∧ answerOf (.boardRead .cell .fixtureA 1) State.reset .cell = some (.refused .outOfRange, [])
      ∧ answerOf (.windowRead .router) State.reset .router = some (.accepted, [0, 0, 0, 0, 0, 3, 0, 0, 1, 0])
      ∧ answerOf (.pickRead .pick) State.reset .pick = some (.accepted, List.replicate 18 0)
      ∧ answerOf (.registerRead .cell 0) State.reset .cell = some (.accepted, [0, 0, 0, 0])
      ∧ answerOf (.encoderRead .cell 1) State.reset .cell = some (.refused .wrongState, [])
      ∧ answerOf (.magazineRead .cell 1 1) State.reset .cell = some (.refused .wrongState, [])
      ∧ answerOf (.recipeRead .cell 1 0 0) State.reset .cell = some (.accepted, [0])
      ∧ answerOf (.statusRead .cell 2) State.reset .cell = some (.accepted, [1, 1, 0, 0, 0, 0, 0, 0, 0]) := by decide

theorem test_recipes :
    answerOf (.recipeOpen .cell 1 48 0 0 0) State.reset .cell = some (.accepted, [])
      ∧ answerOf (.recipeOpen .cell 1 49 0 0 0) State.reset .cell = some (.refused .outOfRange, [])
      ∧ answerOf (.recipeBoard .cell 4 1 1 1 0 0 1) opened .cell = some (.accepted, [])
      ∧ answerOf (.recipeTab .cell 4 1 8 1 0 0 0 5) opened .cell = some (.accepted, [])
      ∧ answerOf (.recipeClose .cell 4) opened .cell = some (.accepted, [])
      ∧ answerOf (.recipeErase .cell 4) opened .cell = some (.accepted, []) := by decide

theorem test_panels :
    answerOf (.panelStart .cell 2 1 51200 []) startable .cell = some (.accepted, [1, 0, 0, 0, 1])
      ∧ answerOf (.panelAbort .cell .fixtureA) (withBoard (board1 .cutting [.uncut, .uncut])) .cell = some (.accepted, [3])
      ∧ answerOf (.panelResult .cell 7) (withPanel State.reset { panel1 .finished [board1 .lost [.cut, .cut]] with lost := 1 }) .cell
          = some (.accepted, [0, 0, 0, 7, 0, 0, 0, 0, 0, 0, 0, 0, 0, 0, 0, 1, 0, 0, 0, 0])
      ∧ answerOf (.resolveTabUncut .cell .fixtureA 1 1) (withBoard (board1 .cutting [.suspect, .uncut])) .cell
          = some (.accepted, [])
      ∧ answerOf (.resolveTabCut .cell .fixtureA 1 1) (withBoard (board1 .cutting [.suspect, .uncut])) .cell
          = some (.accepted, [1])
      ∧ answerOf (.divert .cell .fixtureA 1) (boundAt1 .bound) .cell = some (.accepted, [4]) := by decide

theorem test_cutting :
    (answerOf (.nextCut .router) (withBoard (board1 .cutting [.uncut, .uncut])) .router).map (·.1) = some .accepted
      ∧ answerOf (.cutDone .router 1) (withWindow (withBoard (board1 .cutting [.granted, .uncut])) [grant1 1 false true]) .router
          = some (.accepted, [2, 1])
      ∧ answerOf (.cutAbort .router 1 99) (withWindow (withBoard (board1 .cutting [.granted, .uncut])) [grant1 1 false true]) .router
          = some (.accepted, [35, 0, 0])
      ∧ (after .grantExpiry (withWindow (withBoard (board1 .cutting [.granted, .uncut])) [grant1 1 false true])).cell.state
          = .hold := by decide

theorem test_picking :
    answerOf (.claimNext .pick) (withQueue (board1 .hanging [.cut, .uncut])) .pick
        = some (.accepted, [0, 0, 0, 7, 1, 1, 1, 0, 100, 0, 200])
      ∧ answerOf (.gripped .pick 7 1) (withClaim (board1 .claimed [.cut, .uncut])) .pick = some (.accepted, [])
      ∧ (after (.release .pick 7 1) (withClaim (board1 .held [.cut, .uncut]))).gripper.queue = [id1]
      ∧ answerOf (.destination .pick 7 1) (withMagazine (withClaim (board1 .loose [.cut, .cut])) (session1 [.retired, .empty, .empty])) .pick
          = some (.accepted, [2, 1])
      ∧ (after (.rejectPlaced .pick 7 1) (withClaim { board1 .bound [.cut, .cut] with destination := some .reject })).magazine.binCount
          = 1 := by decide

theorem test_bitAndSpindle :
    answerOf (.bitChange .cell 5 6) (inCell State.reset .standby) .cell = some (.accepted, [0, 0, 0, 5, 0, 0, 0, 6])
      ∧ answerOf (.bitSetup .cell 1 1 0 1 0 1 1) (inCell State.reset .park) .cell
          = some (.accepted, [1, 0, 0, 0, 1, 0, 0, 1, 0, 0, 0, 0, 0, 0, 0, 1, 0, 1])
      ∧ answerOf (.spindleReset .cell) (spindleAt State.reset .faulted) .cell = some (.accepted, [0])
      ∧ (after (.tachEdge 0) (after (.tachEdge 0) (spindleAt (running State.reset) .kick))).spindle.state = .ramping
      ∧ (after (.tachEdge 600) (looping .ramping 19400 true)).spindle.state = .atSpeed
      ∧ (after .stallMeasurement (looping .atSpeed 5 true)).spindle.miss = 1
      ∧ (after .controlPeriod { looping .ramping 5 true with spindle := { (looping .ramping 5 true).spindle with recipeRpm := 30000 } }).spindle.reference
          = 6200 := by decide

theorem test_magazine :
    answerOf (.magLoaded .magazine 9 1) State.reset .magazine = some (.accepted, [20, 0, 0, 0, 0, 0])
      ∧ answerOf (.magUnload .magazine) (withMagazine State.reset (session1 [.empty, .empty, .empty])) .magazine
          = some (.accepted, [0, 0, 0, 0])
      ∧ answerOf (.manifestRead .cell 0) readable .cell = some (.accepted, [0, 0, 0, 3, 1, 0, 0, 0, 1])
      ∧ answerOf (.manifestRelease .cell) readable .cell = some (.accepted, [])
      ∧ answerOf (.binEmptied .cell) State.reset .cell = some (.accepted, [0, 0, 0, 0])
      ∧ answerOf (.registerRepair .cell 9) readable .cell = some (.refused .inUse, []) := by decide

theorem test_elevator :
    (after (.encoderTransition true false) State.reset).elevator.counter = 1
      ∧ (after (.encoderTransition false true) State.reset).elevator.counter = 16777215
      ∧ (after .illegalTransition State.reset).elevator.illegalCount = 1
      ∧ (after .referenceEdge (after (.homeBegin .magazine) State.reset)).elevator.homed = true
      ∧ answerOf (.moveBegin .magazine) State.reset .magazine = some (.accepted, [])
      ∧ answerOf (.arrived .magazine) (boundAt1 .bound) .magazine = some (.accepted, [1, 0, 31, 64, 0, 0, 0])
      ∧ answerOf (.nextPosition .magazine) (boundAt1 .bound) .magazine = some (.accepted, [1, 1, 0, 31, 64, 0, 120, 0]) := by
  decide

theorem test_insertions :
    answerOf (.insertBegin .pick 7 1) (after (.arrived .magazine) (boundAt1 .bound)) .pick = some (.accepted, [1, 0, 31, 64])
      ∧ answerOf (.insertEndAborted .pick 7 1) (inserting1 false false []) .pick = some (.accepted, [5, 1, 0, 0, 0, 1])
      ∧ answerOf (.insertEndSeated .pick 7 1) (inserting1 false false [8000]) .pick = some (.accepted, [8, 1])
      ∧ answerOf (.insertEndSeated .pick 7 1) (inserting1 false false []) .pick = some (.accepted, [7, 0])
      ∧ answerOf (.insertEndSeated .pick 7 1) (inserting1 true false []) .pick = some (.accepted, [7, 1])
      ∧ (((after .seatSensorEdge (waiting1 true)).locateId id1).map (·.board.state)) = some .stowed
      ∧ ((after .seatSettleTimeout (waiting1 true)).magazine.session.map fun m => m.slots.map (·.state))
          = some [.doubt id1, .empty, .empty] := by decide

theorem test_cell :
    answerOf (.cellStart .cell) (inCell State.reset .standby) .cell = some (.accepted, [2])
      ∧ answerOf (.cellPark .cell) (running State.reset) .cell = some (.accepted, [4])
      ∧ answerOf (.cellResume .cell) (inCell State.reset .park) .cell = some (.accepted, [2])
      ∧ answerOf (.cellStop .cell) (running State.reset) .cell = some (.accepted, [1])
      ∧ answerOf (.holdSet .pick) (running State.reset) .pick = some (.accepted, [4])
      ∧ (after .guardOpens (running State.reset)).cell.state = .park
      ∧ answerOf (.faultResponse .cell 12 0 1 0) State.reset .cell = some (.accepted, [0, 1, 0, 0, 0, 0, 0, 0, 0])
      ∧ answerOf (.faultClear .cell 13) State.reset .cell = some (.refused .outOfRange, [])
      ∧ answerOf (.setLimits .cell 9 0 255 1) State.reset .cell = some (.accepted, [8, 50, 150, 1]) := by decide

theorem test_settings :
    answerOf (.constantsWrite .cell (.cell 1 600 500 8 255)) State.reset .cell = some (.accepted, [0, 0, 1, 2, 88, 1, 244, 8, 255])
      ∧ (answerOf (.storeSave .cell 2) State.reset .cell).map (·.1) = some .accepted
      ∧ answerOf (.storeSave .cell 2) protectedStore .cell = some (.refused .protectedStore, protectedStore.storeBody)
      ∧ protectedStore.storeBody = [0, 0, 0, 0, 0, 0, 0, 0, 0, 0, 0, 1]
      ∧ answerOf (.storeSave .cell 4) State.reset .cell = some (.refused .outOfRange, [])
      ∧ answerOf (.cellReset .cell) (writing State.reset true) .cell = some (.refused .busy, [])
      ∧ (after (.storeWriteEnd true) (writing State.reset true)).store.bit.marker = true
      ∧ after (.startUpReadEnd ⟨false, false, false, false, true, false⟩) (after .pinReset State.reset) = State.reset := by decide

end Sys2Proof.Tests
end

/-! Proofs about the recipe table (1.1): what a request's answer is once it reaches its block, the end of a change that
re-examines nothing new, and RECIPE_OPEN, RECIPE_BOARD, RECIPE_TAB and RECIPE_ERASE (R3 to R5, R7). -/

namespace Sys2Proof.Machine

/-! ### A request that reaches its block -/

/-- What the handler of a request leaves and replies is what the command leaves and answers (R161, R162). -/
theorem answers_of_handler {i : Instr} {s t : State} {p : Port} {code : Byte} {handle : Handler} {v : Verdict}
    {body : List Byte} (reaches : s.Reaches p code) (runs : exec i s = .next (s.request p code handle))
    (handled : handle s = (t, { verdict := v, body := body })) : Answers i s t p code v body := by
  obtain ⟨line, mine, up⟩ := reaches
  unfold Answers
  rw [runs, State.request_open s p code handle line mine up, handled]

/-- A handler that refuses leaves the part as it is (R162). -/
theorem refuses_of_handler {i : Instr} {s : State} {p : Port} {code : Byte} {handle : Handler} {r : RefusedReason}
    (reaches : s.Reaches p code) (runs : exec i s = .next (s.request p code handle)) (handled : handle s = refuse s r) :
    Refuses i s p code r :=
  answers_of_handler reaches runs handled

/-! ### The number of a slot (R3) -/

theorem fin4_outside {n : Nat} (h : n < 1 ∨ 4 < n) : fin4 n = none :=
  dif_neg (by omega)

theorem fin4_of_eq_succ {n : Nat} {k : Fin 4} (h : n = k.val + 1) : fin4 n = some k := by
  subst h
  exact dif_pos ⟨by omega, by omega⟩

/-! ### The end of a change that begins no condition -/

theorem State.boundSlot_of {s t : State} (panels : t.panels = s.panels) (claim : t.gripper.claim = s.gripper.claim) :
    t.boundSlot = s.boundSlot := by
  simp [State.boundSlot, State.targetBoard, State.claimed_of panels claim]

/-- When no condition that a controller is told of has begun or ended, no kind is posted. -/
theorem State.announce_quiet {before after : State} (bound : after.boundSlot = before.boundSlot)
    (insertion : after.insertion = before.insertion) (permitted : after.permitted = before.permitted)
    (view : after.grantView = before.grantView) : before.announce after = after := by
  have wanted : after.slotWanted = before.slotWanted := by simp [State.slotWanted, bound, insertion]
  have ready : after.slotReady = before.slotReady := by simp [State.slotReady, bound, insertion]
  simp [State.announce, State.postIf, wanted, ready, permitted, view]

/-- When nothing that is re-examined has changed, the end of the change only lets a free store begin a pending write. -/
theorem commit_eq_storeBegin {before after : State} (panels : after.panels = before.panels)
    (gripper : after.gripper = before.gripper) (magazine : after.magazine = before.magazine)
    (insertion : after.insertion = before.insertion) (permitted : after.permitted = before.permitted)
    (view : after.grantView = before.grantView) : commit before after = after.storeBegin := by
  have claim : after.gripper.claim = before.gripper.claim := by rw [gripper]
  unfold commit
  rw [State.refreshFull_quiet before after magazine, State.refreshWait_quiet before after panels claim magazine,
    State.handOver_quiet before after panels,
    State.announce_quiet (State.boundSlot_of panels claim) insertion permitted view]

/-! ### A recipe slot that no record names (R2) -/

/-- No panel record that is not FREE names the slot (R2). -/
def State.SlotUnused (s : State) (k : Fin 4) : Prop :=
  ∀ (r : Fin 4) (panel : Panel), s.panels.records[r] = some panel → panel.recipe ≠ k

/-- A slot is in use while a record names it (R2). -/
theorem State.recipeInUse_iff (s : State) (k : Fin 4) :
    s.recipeInUse k = true ↔ ∃ (r : Fin 4) (panel : Panel), s.panels.records[r] = some panel ∧ panel.recipe = k := by
  simp [State.recipeInUse, State.findRecord, mem_allRecords, Option.any_eq_true]

theorem State.SlotUnused.not_inUse {s : State} {k : Fin 4} (unused : s.SlotUnused k) : s.recipeInUse k = false := by
  rw [Bool.eq_false_iff, Ne, State.recipeInUse_iff]
  rintro ⟨r, panel, record, names⟩
  exact unused r panel record names

/-- A record names a VALID slot, so a slot that is OPEN is named by none (R2). -/
theorem State.slotUnused_of_opened {s : State} {k : Fin 4} {recipe : Recipe} (safe : PanelsSafe s)
    (opened : s.recipes[k] = .opened recipe) : s.SlotUnused k := by
  rintro r panel record rfl
  obtain ⟨⟨valid, isValid⟩, -⟩ := safe r panel record
  rw [opened] at isValid
  cases isValid

/-- A panel of another slot keeps its recipe. -/
theorem State.recipeOf_setRecipe_ne (s : State) {k : Fin 4} (x : RecipeSlot) {panel : Panel}
    (other : panel.recipe ≠ k) :
    (s.setRecipe k x).recipeOf panel = s.recipeOf panel := by
  have places : k.val ≠ panel.recipe.val := fun h => other (Fin.ext h.symm)
  simp [State.recipeOf, State.setRecipe, Vector.getElem_set_ne, places]

/-- Of a panel's recipe alone it depends how many of its boards are hang-committed (R26). -/
theorem State.committedIn_of {s t : State} {panel : Panel} (recipe : t.recipeOf panel = s.recipeOf panel) :
    t.committedIn panel = s.committedIn panel := by
  simp [State.committedIn, State.isCommitted, State.uncutTabs, State.tabsOf, State.isHold, State.tabDef, recipe]

/-- The hang-committed count reads the panel records and the recipes they name (R26). -/
theorem State.hangCommitted_of {s t : State} (panels : t.panels = s.panels)
    (recipes : ∀ (r : Fin 4) (panel : Panel), s.panels.records[r] = some panel → t.recipeOf panel = s.recipeOf panel) :
    t.hangCommitted = s.hangCommitted := by
  unfold State.hangCommitted
  congr 1
  refine List.map_congr_left fun r _ => ?_
  rw [panels]
  cases record : s.panels.records[r] with
  | none => rfl
  | some panel => exact State.committedIn_of (recipes r panel record)

/-- What R31 depends on does not change with the contents of a slot that no record names. -/
theorem State.grantView_setRecipe {s : State} {k : Fin 4} (x : RecipeSlot) (unused : s.SlotUnused k) :
    (s.setRecipe k x).grantView = s.grantView := by
  have committed : (s.setRecipe k x).hangCommitted = s.hangCommitted :=
    State.hangCommitted_of rfl fun r panel record => s.recipeOf_setRecipe_ne x (unused r panel record)
  simp [State.grantView, committed, State.servedPanel_of_panels (s := s) (t := s.setRecipe k x) rfl]

/-- The contents of a slot that no record names replaced: a free store begins a pending write, and nothing else
follows. -/
theorem accept_setRecipe {s : State} {k : Fin 4} (x : RecipeSlot) (unused : s.SlotUnused k) :
    (accept s (s.setRecipe k x) fun _ => []) = ((s.setRecipe k x).storeBegin, .bare .accepted) := by
  have committed : commit s (s.setRecipe k x) = (s.setRecipe k x).storeBegin :=
    commit_eq_storeBegin rfl rfl rfl rfl rfl (State.grantView_setRecipe x unused)
  simp [accept, conclude, committed, Reply.bare]

/-! ### RECIPE_ERASE (R7) -/

/-- Settles O24: by the slot's number, and then by whether a record names the slot. -/
theorem recipeEraseEmptiesTheSlot : Obligations.RecipeEraseEmptiesTheSlot := by
  intro s p slot reaches
  refine ⟨fun outside => ?_, fun k number => ⟨fun named => ?_, fun unused => ?_⟩⟩
  · exact refuses_of_handler reaches rfl (by simp [fin4_outside outside])
  · have inUse : s.recipeInUse k = true := (s.recipeInUse_iff k).mpr named
    exact refuses_of_handler reaches rfl (by simp [fin4_of_eq_succ number, inUse])
  · have free : s.recipeInUse k = false := State.SlotUnused.not_inUse unused
    refine answers_of_handler reaches rfl ?_
    simp only [fin4_of_eq_succ number, free, if_false, Bool.false_eq_true]
    exact accept_setRecipe .empty unused

/-! ### RECIPE_OPEN (R3) -/

/-- RECIPE_OPEN: by the slot's number and the board count, and then by whether a record names the slot. -/
theorem recipeOpenBeginsAnEmptyRecipe : Says.RecipeOpenBeginsAnEmptyRecipe := by
  intro s p slot n rpm feed limit reaches
  refine ⟨fun outside => ?_, fun k number low high => ⟨fun named => ?_, fun unused => ?_⟩⟩
  · refine refuses_of_handler reaches rfl ?_
    by_cases slotOutside : slot.toNat < 1 ∨ 4 < slot.toNat
    · simp [fin4_outside slotOutside]
    · obtain ⟨k, number⟩ : ∃ k : Fin 4, slot.toNat = k.val + 1 := ⟨⟨slot.toNat - 1, by omega⟩, by simp; omega⟩
      have countOutside : n.toNat < 1 ∨ 48 < n.toNat := by omega
      simp only [fin4_of_eq_succ number, countOutside, if_true]
  all_goals have countInside : ¬ (n.toNat < 1 ∨ 48 < n.toNat) := by omega
  · have inUse : s.recipeInUse k = true := (s.recipeInUse_iff k).mpr named
    exact refuses_of_handler reaches rfl (by simp only [fin4_of_eq_succ number, countInside, inUse, if_true, if_false])
  · have free : s.recipeInUse k = false := State.SlotUnused.not_inUse unused
    refine answers_of_handler reaches rfl ?_
    simp only [fin4_of_eq_succ number, countInside, free, if_false, Bool.false_eq_true]
    exact accept_setRecipe _ unused

/-! ### RECIPE_BOARD and RECIPE_TAB (R4, R5) -/

theorem State.editItem_outside {s : State} {slot : Nat} (board : Nat) (f : BoardItem → BoardItem)
    (outside : slot < 1 ∨ 4 < slot) : s.editItem slot board f = refuse s .outOfRange := by
  simp [State.editItem, fin4_outside outside]

theorem State.editItem_notOpened {s : State} {slot : Nat} {k : Fin 4} (board : Nat) (f : BoardItem → BoardItem)
    (number : slot = k.val + 1) (notOpened : ∀ r, s.recipes[k] ≠ .opened r) :
    s.editItem slot board f = refuse s .wrongState := by
  simp only [State.editItem, fin4_of_eq_succ number]
  cases contents : s.recipes[k] with
  | opened r => exact absurd contents (notOpened r)
  | empty | valid _ => rfl

theorem State.editItem_boardOutside {s : State} {slot board : Nat} {k : Fin 4} {r : Recipe} (f : BoardItem → BoardItem)
    (number : slot = k.val + 1) (opened : s.recipes[k] = .opened r)
    (outside : board < 1 ∨ r.header.boardCount < board) : s.editItem slot board f = refuse s .outOfRange := by
  simp only [State.editItem, fin4_of_eq_succ number, opened, outside, if_true]

/-- An item of an OPEN slot, which no record names, is rewritten, and every other item is kept. -/
theorem State.editItem_opened {s : State} {slot board : Nat} {k : Fin 4} {r : Recipe} (f : BoardItem → BoardItem)
    (number : slot = k.val + 1) (opened : s.recipes[k] = .opened r) (unused : s.SlotUnused k) (low : 1 ≤ board)
    (high : board ≤ r.header.boardCount) :
    s.editItem slot board f
      = ((s.setRecipe k (.opened { r with items := r.items.modify (board - 1) f })).storeBegin, .bare .accepted) := by
  have inside : ¬ (board < 1 ∨ r.header.boardCount < board) := by omega
  have place : board ≠ 0 := by omega
  simp only [State.editItem, fin4_of_eq_succ number, opened, inside, if_false, modify1, place]
  exact accept_setRecipe _ unused

theorem State.editTab_outside {s : State} {slot : Nat} (board tab : Nat) (d : TabDef) (outside : slot < 1 ∨ 4 < slot) :
    s.editTab slot board tab d = refuse s .outOfRange := by
  simp [State.editTab, fin4_outside outside]

theorem State.editTab_notOpened {s : State} {slot : Nat} {k : Fin 4} (board tab : Nat) (d : TabDef)
    (number : slot = k.val + 1) (notOpened : ∀ r, s.recipes[k] ≠ .opened r) :
    s.editTab slot board tab d = refuse s .wrongState := by
  simp only [State.editTab, fin4_of_eq_succ number]
  cases contents : s.recipes[k] with
  | opened r => exact absurd contents (notOpened r)
  | empty | valid _ => rfl

theorem State.editTab_opened {s : State} {slot : Nat} {k : Fin 4} {r : Recipe} (board tab : Nat) (d : TabDef)
    (number : slot = k.val + 1) (opened : s.recipes[k] = .opened r) :
    s.editTab slot board tab d
      = if tab < 1 ∨ 8 < tab then refuse s .outOfRange else s.editItem slot board fun item => item.setTab tab d := by
  simp only [State.editTab, fin4_of_eq_succ number, opened]

theorem BoardItem.setTab_succ (item : BoardItem) (m : Fin 8) (d : TabDef) :
    item.setTab (m.val + 1) d = { item with tabs := item.tabs.set m (some d) } :=
  dif_pos ⟨by omega, by omega⟩

/-- RECIPE_BOARD and RECIPE_TAB: by the slot's number, the slot's state and the indices; no panel uses an OPEN slot. -/
theorem recipeItemsAreWritten : Says.RecipeItemsAreWritten := by
  refine fun s p safe => ⟨fun reaches slot b rank height x y n => ?_, fun reaches slot b t role x y heading len => ?_⟩
  · refine ⟨fun outside => ?_, fun k number => ⟨fun notOpened => ?_, fun r opened =>
      ⟨fun outside => ?_, fun low high => ?_⟩⟩⟩
    · exact refuses_of_handler reaches rfl (State.editItem_outside _ _ outside)
    · exact refuses_of_handler reaches rfl (State.editItem_notOpened _ _ number notOpened)
    · exact refuses_of_handler reaches rfl (State.editItem_boardOutside _ number opened outside)
    · exact answers_of_handler reaches rfl
        (State.editItem_opened _ number opened (State.slotUnused_of_opened safe opened) low high)
  · refine ⟨fun outside => ?_, fun k number => ⟨fun notOpened => ?_, fun r opened =>
      ⟨fun outside => ?_, fun m low high tab => ?_⟩⟩⟩
    · exact refuses_of_handler reaches rfl (State.editTab_outside _ _ _ outside)
    · exact refuses_of_handler reaches rfl (State.editTab_notOpened _ _ _ number notOpened)
    · refine refuses_of_handler reaches rfl ((State.editTab_opened _ _ _ number opened).trans ?_)
      split
      · rfl
      · exact State.editItem_boardOutside _ number opened (by omega)
    · have tabInside : ¬ (t.toNat < 1 ∨ 8 < t.toNat) := by omega
      refine answers_of_handler reaches rfl ((State.editTab_opened _ _ _ number opened).trans ?_)
      rw [if_neg tabInside, tab]
      simp only [BoardItem.setTab_succ]
      exact State.editItem_opened _ number opened (State.slotUnused_of_opened safe opened) low high

/-- Settles O22: RECIPE_OPEN, and then RECIPE_BOARD and RECIPE_TAB by the rewriting of one item. -/
theorem recipeIsOpenedAndFilled : Obligations.RecipeIsOpenedAndFilled :=
  ⟨recipeOpenBeginsAnEmptyRecipe, recipeItemsAreWritten⟩

end Sys2Proof.Machine

/-! Proofs about the requests on the claimed board (3.3, 3.4): what a change of a board's state does to the panel table,
which kinds stay pending at the end of a change, when that end leaves the tracker and the magazine map alone, and the
checks of R49 with GRIPPED, RELEASE and REJECT_PLACED (R49, R52, R53, R58). -/

namespace Sys2Proof.Machine

/-! ### Boards and records after a board's change of state (R15, R16) -/

theorem nth1_modify1 {α : Type} (l : List α) (i j : Nat) (f : α → α) :
    nth1 (modify1 l i f) j = if j = i then (nth1 l j).map f else nth1 l j := by
  unfold nth1 modify1
  by_cases hi : i = 0
  · by_cases hj : j = 0 <;> simp [hi, hj]
  · by_cases hj : j = 0
    · simp [hj]
    · have places : i - 1 = j - 1 ↔ j = i := by omega
      simp only [hi, hj, if_false, List.getElem?_modify, places]
      split <;> simp

theorem State.boardAt_eq (s : State) (i : Fin 4) (b : Nat) :
    s.boardAt i b = (s.panels.records[i]).bind fun p => nth1 p.boards b := by
  simp [State.boardAt, State.locate, Option.map_bind, Function.comp_def]

theorem State.boardAt_of_panels {s t : State} (panels : t.panels = s.panels) (i : Fin 4) (b : Nat) :
    t.boardAt i b = s.boardAt i b := by
  simp [State.boardAt_eq, panels]

@[simp] theorem Panel.tally_frame (p : Panel) (st : BoardState) :
    (p.tally st).boards = p.boards ∧ (p.tally st).serial = p.serial := by
  cases st <;> exact ⟨rfl, rfl⟩

@[simp] theorem Panel.moveBoard_boards (p : Panel) (b : Nat) (st : BoardState) :
    (p.moveBoard b st).boards = modify1 p.boards b fun board => { board with state := st } := by
  simp [Panel.moveBoard, Panel.modifyBoard]

@[simp] theorem Panel.moveBoard_serial (p : Panel) (b : Nat) (st : BoardState) :
    (p.moveBoard b st).serial = p.serial := by
  simp [Panel.moveBoard, Panel.modifyBoard]

theorem State.setRecord_records (s : State) (i j : Fin 4) (p : Option Panel) :
    (s.setRecord i p).panels.records[j] = if j = i then p else s.panels.records[j] := by
  simp [State.setRecord, Vector.getElem_set, Fin.ext_iff, eq_comm]

/-- A record re-examined takes its settled state; the other records stay (R16). -/
theorem State.reexamine_records (s : State) (i j : Fin 4) :
    (s.reexamine i).panels.records[j]
      = if j = i then (s.panels.records[j]).map fun p => { p with state := p.settled } else s.panels.records[j] := by
  unfold State.reexamine
  cases record : s.panels.records[i] with
  | none =>
      by_cases same : j = i
      · subst same; simp [record]
      · simp [same]
  | some p =>
      have panels : ∀ done : Prop, [Decidable done] → ∀ t : State,
          (if done then (t.post .cell .panelDone).queueSave .bit else t).panels = t.panels := by
        intro done _ t; split <;> simp
      simp only [panels, State.setRecord_records]
      by_cases same : j = i
      · subst same; simp [record]
      · simp [same]

/-- A board's change of state goes to its own record, which is then re-examined (R15, R16). -/
theorem State.moveBoard_records (s : State) (i j : Fin 4) (b : Nat) (st : BoardState) :
    (s.moveBoard i b st).panels.records[j]
      = if j = i then
          (s.panels.records[j]).map fun p => { p.moveBoard b st with state := (p.moveBoard b st).settled }
        else s.panels.records[j] := by
  unfold State.moveBoard State.modifyPanel
  rw [State.reexamine_records, State.setRecord_records]
  by_cases same : j = i
  · subst same; simp [Function.comp_def]
  · simp [same]

theorem State.boardAt_moveBoard (s : State) (i j : Fin 4) (b c : Nat) (st : BoardState) :
    (s.moveBoard i b st).boardAt j c
      = if j = i ∧ c = b then (s.boardAt j c).map fun board => { board with state := st } else s.boardAt j c := by
  rw [State.boardAt_eq, State.boardAt_eq, State.moveBoard_records]
  by_cases record : j = i
  · by_cases index : c = b <;>
      cases s.panels.records[j] <;> simp [record, index, nth1_modify1]
  · simp [record]

/-- After a change whose only effect on the panel table is one board's change of state, the board keeps the rest of its
record and every other board keeps its own (R15). -/
theorem State.boards_of_moveBoard {s t u : State} {i : Fin 4} {b : Nat} {board : Board} {st : BoardState}
    (panels : t.panels = (u.moveBoard i b st).panels) (start : u.panels = s.panels)
    (found : s.boardAt i b = some board) :
    t.boardAt i b = some { board with state := st } ∧ BoardsElsewhere s t i b := by
  have moved : ∀ j c, t.boardAt j c
      = if j = i ∧ c = b then (s.boardAt j c).map fun board => { board with state := st } else s.boardAt j c := by
    intro j c
    rw [State.boardAt_of_panels panels, State.boardAt_moveBoard, State.boardAt_of_panels start]
  refine ⟨by simp [moved, found], fun j c other => ?_⟩
  rw [moved, if_neg other]

/-! ### The board that a serial and an index name (R10) -/

/-- A board found by its name stands in the first record of its serial, under its index, and bears that name. -/
theorem State.locateId_eq_some {s : State} {id : BoardId} {l : Located} (found : s.locateId id = some l) :
    s.recordOfSerial id.serial = some l.record ∧ l.index = id.board ∧ l.id = id
      ∧ s.boardAt l.record l.index = some l.board := by
  obtain ⟨i, record, located⟩ := Option.bind_eq_some_iff.mp found
  have stands := located
  obtain ⟨p, panel, there⟩ := Option.bind_eq_some_iff.mp located
  obtain ⟨board, -, rfl⟩ := Option.map_eq_some_iff.mp there
  have serial : p.serial = id.serial := by
    have test := List.find?_some record
    simpa [panel] using test
  refine ⟨record, rfl, ?_, ?_⟩
  · simp [Located.id, serial]
  · simp [State.boardAt, stands]

theorem State.recordOfSerial_moveBoard (s : State) (i : Fin 4) (b : Nat) (st : BoardState) (serial : Nat) :
    (s.moveBoard i b st).recordOfSerial serial = s.recordOfSerial serial := by
  have tests : ∀ j : Fin 4, ((s.moveBoard i b st).panels.records[j]).any (·.serial == serial)
      = (s.panels.records[j]).any (·.serial == serial) := by
    intro j
    rw [State.moveBoard_records]
    split <;> cases s.panels.records[j] <;> simp
  simp only [State.recordOfSerial, State.findRecord, tests]

/-- A board that has changed state is found under its name in its new state (R10). -/
theorem State.locateId_moveBoard {s : State} {id : BoardId} {l : Located} (st : BoardState)
    (found : s.locateId id = some l) :
    ((s.moveBoard l.record l.index st).locateId id).map (·.board) = some { l.board with state := st } := by
  obtain ⟨record, index, -, board⟩ := State.locateId_eq_some found
  have moved := (State.boards_of_moveBoard (st := st) rfl rfl board).1
  simpa [State.locateId, State.recordOfSerial_moveBoard, record, ← index] using moved

/-! ### Pending kinds (R164) -/

/-- Every kind pending in one state is pending in the other. -/
def State.KeepsPending (s t : State) : Prop := ∀ p k, s.isPending p k = true → t.isPending p k = true

theorem State.KeepsPending.of_ports {s t : State} (ports : t.ports = s.ports) : s.KeepsPending t := by
  intro p k pending
  simpa [State.isPending, State.port, ports] using pending

theorem State.KeepsPending.refl (s : State) : s.KeepsPending s := .of_ports rfl

theorem State.KeepsPending.trans {s t u : State} (first : s.KeepsPending t) (second : t.KeepsPending u) :
    s.KeepsPending u :=
  fun p k pending => second p k (first p k pending)

theorem State.isPending_iff (s : State) (p : Port) (k : EventKind) :
    s.isPending p k = true ↔ (s.port p).events &&& kindBit p k ≠ 0 := by
  simp [State.isPending]

theorem State.post_keepsPending (s : State) (p : Port) (k : EventKind) : s.KeepsPending (s.post p k) := by
  intro q j
  simp only [State.isPending_iff, State.post_events]
  split
  next same =>
    subst same
    intro pending gone
    rw [BitVec.and_comm, BitVec.and_or_distrib_left] at gone
    rw [BitVec.and_comm] at pending
    exact pending (BitVec.or_eq_zero_iff.mp gone).1
  next => exact id

theorem State.isPending_post (s : State) {p : Port} {k : EventKind} (listed : kindBit p k ≠ 0) :
    (s.post p k).isPending p k = true := by
  rw [State.isPending_iff, State.post_events, if_pos rfl, BitVec.and_comm, BitVec.and_or_distrib_left, BitVec.and_self]
  exact fun gone => listed (BitVec.or_eq_zero_iff.mp gone).2

theorem State.postIf_keepsPending (s : State) (b : Bool) (p : Port) (k : EventKind) :
    s.KeepsPending (s.postIf b p k) := by
  cases b
  · exact .refl s
  · exact s.post_keepsPending p k

theorem State.markFull_keepsPending (s : State) (h : Nat) : s.KeepsPending (s.markFull h) :=
  State.KeepsPending.trans (.of_ports (by simp)) (State.post_keepsPending _ .magazine .unloadWanted)

theorem State.refreshFull_keepsPending (before s : State) : s.KeepsPending (before.refreshFull s) := by
  unfold State.refreshFull
  split
  · split
    · exact .refl s
    · split
      · exact s.markFull_keepsPending 1
      · split
        · split
          · exact .of_ports (by simp)
          · exact .refl s
        · exact .refl s
  · exact .refl s
  · exact .refl s

theorem State.refreshWait_keepsPending (before s : State) : s.KeepsPending (before.refreshWait s) := by
  unfold State.refreshWait
  split
  · exact State.KeepsPending.trans (t := s.setWait none) (.of_ports rfl) (State.post_keepsPending _ _ _)
  · exact .refl s

theorem State.announce_keepsPending (before s : State) : s.KeepsPending (before.announce s) :=
  (((s.postIf_keepsPending _ _ _).trans (State.postIf_keepsPending _ _ _ _)).trans
    (State.postIf_keepsPending _ _ _ _)).trans (State.postIf_keepsPending _ _ _ _)

theorem State.handOver_keepsPending (before s : State) : s.KeepsPending (before.handOver s) :=
  .of_ports (by simp)

theorem State.storeBegin_keepsPending (s : State) : s.KeepsPending s.storeBegin :=
  .of_ports (by simp)

/-- The end of a change takes no kind back. -/
theorem commit_keepsPending (before s : State) : s.KeepsPending (commit before s) :=
  ((((State.refreshFull_keepsPending before s).trans (State.refreshWait_keepsPending before _)).trans
    (State.handOver_keepsPending before _)).trans (State.announce_keepsPending before _)).trans
    (State.storeBegin_keepsPending _)

/-! ### The end of a change of the same slot map (R57, R101) -/

theorem State.refreshFull_of_session {before after : State}
    (session : after.magazine.session = before.magazine.session) : before.refreshFull after = after := by
  unfold State.refreshFull
  rw [session]
  cases before.magazine.session <;> simp

/-- Without a change of the slot map the magazine map stays as the change left it (R101). -/
theorem commit_magazine {before after : State} (session : after.magazine.session = before.magazine.session) :
    (commit before after).magazine = after.magazine := by
  simp [commit, State.refreshFull_of_session session]

/-- Without a change of the slot map, and with no wait that could now end, the tracker stays as the change left it
(R57). -/
theorem commit_gripper {before after : State} (session : after.magazine.session = before.magazine.session)
    (noEnd : after.gripper.wait = none ∨ after.destinationReady = false) :
    (commit before after).gripper = after.gripper := by
  have quiet : before.refreshWait after = after := by
    unfold State.refreshWait
    refine if_neg ?_
    rintro ⟨waits, -, ready⟩
    rcases noEnd with noWait | notReady
    · simp [noWait] at waits
    · simp [notReady] at ready
  simp [commit, State.refreshFull_of_session session, quiet]

/-- The wait of a claimed board that is not LOOSE does not end (R57). -/
theorem State.destinationReady_of_state {s : State} {board : Board} (claimed : s.claimed.map (·.board) = some board)
    (state : board.state ≠ .loose) : s.destinationReady = false := by
  obtain ⟨l, isClaimed, rfl⟩ := Option.map_eq_some_iff.mp claimed
  simp [State.destinationReady, isClaimed, state]

/-! ### The grants revoked, and a kind raised (R41, R153) -/

theorem State.revoke_scheduler (s : State) (test : Grant → Bool) :
    (s.revoke test).scheduler
      = { s.scheduler with
          window := s.scheduler.window.map fun g => if test g then { g with live := false } else g } := by
  unfold State.revoke
  dsimp only
  split <;> simp

theorem State.revoke_posts {s : State} {test : Grant → Bool} {g : Grant} (inWindow : g ∈ s.scheduler.window)
    (revoked : test g = true) (live : g.live = true) : (s.revoke test).isPending .router .grantRevoked = true := by
  have told : (s.scheduler.window.any fun g => test g && g.live) = true :=
    List.any_eq_true.mpr ⟨g, inWindow, by simp [revoked, live]⟩
  unfold State.revoke
  simp only [told, if_true]
  exact State.isPending_post _ (by decide)

theorem State.setHolds_faults (s : State) (h : HoldSet) : (s.setHolds h).cell.faults = s.cell.faults := by
  unfold State.setHolds
  split
  · rfl
  · dsimp only
    split
    · split <;> rfl
    · split <;> rfl
    all_goals rfl

theorem State.enterPark_faults (s : State) : s.enterPark.cell.faults = s.cell.faults := by
  simp [State.enterPark]

theorem State.fault_of_faults {s t : State} (faults : t.cell.faults = s.cell.faults) (k : FaultKind) :
    t.fault k = s.fault k := by
  simp [State.fault, faults]

@[simp] theorem State.fault_parkIfActive (s : State) (k : FaultKind) : s.parkIfActive.fault k = s.fault k := by
  have parked : s.enterPark.fault k = s.fault k := State.fault_of_faults s.enterPark_faults k
  unfold State.parkIfActive
  cases s.cell.state with
  | run | hold => exact parked
  | unconfigured | standby | park => rfl

@[simp] theorem State.fault_reevaluateFault (s : State) (k : FaultKind) : s.reevaluateFault.fault k = s.fault k :=
  State.fault_of_faults (s.setHolds_faults _) k

@[simp] theorem State.fault_modifyFault (s : State) (k : FaultKind) (f : FaultEntry → FaultEntry) :
    (s.modifyFault k f).fault k = f (s.fault k) := by
  simp [State.fault, State.modifyFault]

/-- The count and the latch of a raise leave the active flag alone (R154). -/
@[simp] theorem State.countFault_active (s : State) (k : FaultKind) :
    ((s.countFault k).fault k).active = (s.fault k).active := by
  have counted : (s.countFault k).fault k
      = { s.fault k with
          count := min 255 ((s.fault k).count + 1), latched := (s.fault k).latched || (s.fault k).latch } :=
    s.fault_modifyFault k fun e => { e with count := min 255 (e.count + 1), latched := e.latched || e.latch }
  rw [counted]

/-- A persistent kind is active once it has been raised, whatever its response (R153, R154). -/
theorem State.raise_active (s : State) {k : FaultKind} (persistent : k.persistent = true) :
    ((s.raise k).fault k).active = true := by
  unfold State.raise
  cases (s.fault k).enabled with
  | false => simp [persistent]
  | true => cases (s.fault k).action <;> simp [persistent]

/-! ### The checks that the requests share (R49) -/

/-- A request that makes the checks of R49 first refuses a board that does not exist, and one the claim does not
name. -/
theorem refusals_of_onClaim {i : Instr} {s : State} {p : Port} {code : Byte} {serial : Word32} {b : Byte}
    (rest : State → Located → State × Reply)
    (runs : exec i s = .next (s.request p code fun u => u.onClaim serial b (rest u))) (reaches : s.Reaches p code) :
    let id : BoardId := { serial := serial.toNat, board := b.toNat }
    (s.locateId id = none → Refuses i s p code .outOfRange)
      ∧ (∀ l, s.locateId id = some l → s.gripper.claim ≠ some id → Refuses i s p code .wrongState) := by
  refine ⟨fun missing => ?_, fun l found other => ?_⟩
  · exact refuses_of_handler reaches runs (by simp [State.onClaim, missing])
  · obtain ⟨-, -, name, -⟩ := State.locateId_eq_some found
    exact refuses_of_handler reaches runs (by simp [State.onClaim, found, name, other])

/-- Past the checks of R49 the request's own rule is applied to the claimed board. -/
theorem State.onClaim_claimed {s : State} {serial : Word32} {b : Byte} {l : Located}
    (found : s.locateId { serial := serial.toNat, board := b.toNat } = some l) (claim : s.gripper.claim = some l.id)
    (rest : Located → State × Reply) : s.onClaim serial b rest = rest l := by
  simp [State.onClaim, found, claim]

/-- The seven requests that act on the claim make the checks of R49 first. -/
theorem pickRequestsNameTheClaimedBoard : Says.PickRequestsNameTheClaimedBoard := by
  intro s p serial b
  simp only [List.forall_mem_cons]
  refine ⟨?gripped, ?release, ?destination, ?rejectPlaced, ?insertBegin, ?insertEndAborted, ?insertEndSeated, ?none⟩
  case none => exact List.forall_mem_nil _
  all_goals exact refusals_of_onClaim _ rfl

/-! ### GRIPPED and RELEASE (R52, R53) -/

/-- A claimed board that goes to a state other than LOOSE has no wait to end (R57). -/
theorem State.destinationReady_moveBoard {s : State} {l : Located} {st : BoardState} (found : s.locateId l.id = some l)
    (claim : s.gripper.claim = some l.id) (state : st ≠ .loose) :
    (s.moveBoard l.record l.index st).destinationReady = false := by
  refine State.destinationReady_of_state (board := { l.board with state := st }) ?_ state
  simpa [State.claimed, claim] using State.locateId_moveBoard st found

theorem State.releaseBoard_frame (s : State) (l : Located) :
    (s.releaseBoard l).panels = (s.emptyClaim.moveBoard l.record l.index .hanging).panels
      ∧ (s.releaseBoard l).magazine = s.magazine ∧ (s.releaseBoard l).cell = s.cell
      ∧ (s.releaseBoard l).bit = s.bit := by
  simp [State.releaseBoard]

/-- A released board stands at the head of the queue, and the claim is empty (R53). -/
theorem State.releaseBoard_gripper (s : State) (l : Located) :
    (s.releaseBoard l).gripper = { claim := none, queue := l.id :: s.gripper.queue, wait := none } := by
  simp [State.releaseBoard, State.emptyClaim]

theorem State.releaseBoard_scheduler (s : State) (l : Located) :
    (s.releaseBoard l).scheduler = { s.scheduler with window := s.scheduler.window.map fun g =>
      if g.hold = true ∧ g.serial = l.id.serial ∧ g.board = l.id.board then { g with live := false } else g } := by
  unfold State.releaseBoard
  rw [State.revoke_scheduler]
  simp [and_assoc]

/-- The router is told of a LIVE grant for a hold tab of the released board (R41). -/
theorem State.releaseBoard_posts {s : State} {l : Located} {g : Grant} (inWindow : g ∈ s.scheduler.window)
    (ofBoard : g.hold = true ∧ g.serial = l.id.serial ∧ g.board = l.id.board) (live : g.live = true) :
    (s.releaseBoard l).isPending .router .grantRevoked = true :=
  State.revoke_posts (by simpa using inWindow) (by simp [ofBoard]) live

/-- GRIPPED and RELEASE, by the state of the claimed board. -/
theorem grippedAndRelease : Says.GrippedAndRelease := by
  intro s p serial b l found claim
  obtain ⟨-, -, name, board⟩ := State.locateId_eq_some found
  refine ⟨fun reaches => ⟨fun other => ?_, fun isClaimed => ?_⟩,
    fun reaches => ⟨fun notClaimed notHeld => ?_, fun attached => ?_⟩⟩
  · exact refuses_of_handler reaches rfl ((State.onClaim_claimed found claim _).trans (if_neg other))
  · have session : (s.moveBoard l.record l.index .held).magazine.session = s.magazine.session := by simp
    have notReady := State.destinationReady_moveBoard (st := .held) (name ▸ found) claim (by decide)
    obtain ⟨moved, elsewhere⟩ := State.boards_of_moveBoard (st := .held) (u := s)
      (t := commit s (s.moveBoard l.record l.index .held)) (by simp) rfl board
    refine ⟨_, answers_of_handler reaches rfl ((State.onClaim_claimed found claim _).trans (if_pos isClaimed)), moved,
      elsewhere, by simp, ?magazine, by simp, by simp, ?gripper⟩
    case magazine => simp [commit_magazine session]
    case gripper => simp [commit_gripper session (.inr notReady)]
  · exact refuses_of_handler reaches rfl
      ((State.onClaim_claimed found claim _).trans (if_neg (not_or.mpr ⟨notClaimed, notHeld⟩)))
  · obtain ⟨panels, magazine, cell, bit⟩ := s.releaseBoard_frame l
    have session : (s.releaseBoard l).magazine.session = s.magazine.session := by rw [magazine]
    have noWait : (s.releaseBoard l).gripper.wait = none := by rw [s.releaseBoard_gripper]
    obtain ⟨moved, elsewhere⟩ := State.boards_of_moveBoard (st := .hanging) (u := s.emptyClaim)
      (t := commit s (s.releaseBoard l)) (by simp [panels]) rfl board
    refine ⟨_, answers_of_handler reaches rfl ((State.onClaim_claimed found claim _).trans (if_pos attached)), moved,
      elsewhere, ?gripper, ?scheduler, ?told, ?magazine, by simp [cell], by simp [bit]⟩
    case gripper => rw [commit_gripper session (.inl noWait), s.releaseBoard_gripper]
    case scheduler => simp [s.releaseBoard_scheduler]
    case told =>
      rintro ⟨g, inWindow, hold, serial, index, live⟩
      exact commit_keepsPending s _ _ _ (State.releaseBoard_posts inWindow ⟨hold, serial, index⟩ live)
    case magazine => rw [commit_magazine session, magazine]

/-! ### REJECT_PLACED (R58) -/

theorem State.raiseIfFull_frame (s : State) :
    s.raiseIfFull.panels = s.panels ∧ s.raiseIfFull.gripper = s.gripper ∧ s.raiseIfFull.magazine = s.magazine
      ∧ s.raiseIfFull.bit = s.bit ∧ s.raiseIfFull.recipes = s.recipes := by
  unfold State.raiseIfFull
  split <;> simp

/-- The part with one board more in the bin, the claim empty and the board REJECTED, before the bin's count is looked at
(R58). -/
def State.binned (s : State) (l : Located) : State :=
  ({ s with magazine := { s.magazine with binCount := s.magazine.binCount + 1 } }.emptyClaim).moveBoard l.record l.index
    .rejected

theorem State.rejectPlaced_eq (s : State) (l : Located) : s.rejectPlaced l = (s.binned l).raiseIfFull := rfl

theorem State.binned_frame (s : State) (l : Located) :
    (s.binned l).gripper = { s.gripper with claim := none, wait := none }
      ∧ (s.binned l).magazine = { s.magazine with binCount := s.magazine.binCount + 1 }
      ∧ (s.binned l).cell = s.cell ∧ (s.binned l).scheduler = s.scheduler ∧ (s.binned l).bit = s.bit
      ∧ (s.binned l).recipes = s.recipes := by
  simp [State.binned, State.emptyClaim]

/-- REJECT_PLACED, by the state and the destination of the claimed board, and by whether the bin is then full. -/
theorem rejectPlacedFillsTheBin : Says.RejectPlacedFillsTheBin := by
  intro s p serial b l reaches found claim
  obtain ⟨-, -, -, board⟩ := State.locateId_eq_some found
  refine ⟨fun other => ?_, fun isBound toBin => ?_⟩
  · exact refuses_of_handler reaches rfl ((State.onClaim_claimed found claim _).trans (if_neg other))
  · obtain ⟨gripper, magazine, cell, scheduler, bit, recipes⟩ := s.binned_frame l
    obtain ⟨samePanels, sameGripper, sameMagazine, sameBit, sameRecipes⟩ := (s.binned l).raiseIfFull_frame
    have session : (s.rejectPlaced l).magazine.session = s.magazine.session := by
      rw [s.rejectPlaced_eq, sameMagazine, magazine]
    have noWait : (s.rejectPlaced l).gripper.wait = none := by rw [s.rejectPlaced_eq, sameGripper, gripper]
    have panels : (commit s (s.rejectPlaced l)).panels = (s.binned l).panels := by simp [s.rejectPlaced_eq, samePanels]
    obtain ⟨moved, elsewhere⟩ := State.boards_of_moveBoard panels rfl board
    refine ⟨_, answers_of_handler reaches rfl ((State.onClaim_claimed found claim _).trans (if_pos ⟨isBound, toBin⟩)),
      moved, elsewhere, ?magazine, ?gripper, ?full, ?notFull, ?bit, ?recipes⟩
    case magazine => rw [commit_magazine session, s.rejectPlaced_eq, sameMagazine, magazine]
    case gripper => rw [commit_gripper session (.inl noWait), s.rejectPlaced_eq, sameGripper, gripper]
    case full =>
      intro isFull
      have raised : s.rejectPlaced l = (s.binned l).raise .rejectFull := if_pos (by simpa [magazine] using isFull)
      rw [State.fault_of_faults (s := s.rejectPlaced l) (by simp), raised]
      exact State.raise_active _ rfl
    case notFull =>
      intro notFull
      have quiet : s.rejectPlaced l = s.binned l := if_neg (by simpa [magazine] using notFull)
      exact ⟨by simp [quiet, cell], by simp [quiet, scheduler]⟩
    case bit => simp [s.rejectPlaced_eq, sameBit, bit]
    case recipes => simp [s.rejectPlaced_eq, sameRecipes, recipes]

/-- Settles O38: the checks of R49, and then each of the three requests by the state of the claimed board. -/
theorem claimedBoardIsGrippedReleasedOrRejected : Obligations.ClaimedBoardIsGrippedReleasedOrRejected :=
  ⟨pickRequestsNameTheClaimedBoard, grippedAndRelease, rejectPlacedFillsTheBin⟩

end Sys2Proof.Machine

/-! Proofs about the router bit (4): the depth and the feed that a grant is given (R68 to R71), the end of a fault
condition outside RUN and HOLD (R146, R153), and BIT_CHANGE and BIT_SETUP (R72, R73). -/

namespace Sys2Proof.Machine

/-! ### The Z depth (R68) -/

theorem BitRecord.level_lt {r : BitRecord} (levels : 1 ≤ r.params.levels) : r.level < r.params.levels :=
  Nat.mod_lt _ levels

/-- The level counts the whole spans of the wear (R68). -/
theorem BitRecord.level_eq {r : BitRecord} {q : Nat} (low : q * r.params.span ≤ r.wear)
    (high : r.wear < (q + 1) * r.params.span) : r.level = q % r.params.levels := by
  have spans : r.wear / r.params.span = q := Nat.div_eq_of_lt_le low high
  rw [BitRecord.level, spans]

theorem BitRecord.depth_eq (r : BitRecord) :
    r.depth = if 1000 < r.params.baseDepth + r.level * r.params.levelStep then 1000
      else r.params.baseDepth + r.level * r.params.levelStep := by
  unfold BitRecord.depth
  split <;> omega

theorem BitRecord.level_of_single {r : BitRecord} (single : r.params.levels = 1) : r.level = 0 := by
  rw [BitRecord.level, single, Nat.mod_one]

/-- With one level the depth does not move from z0 (R68). -/
theorem BitRecord.depth_of_single {r : BitRecord} (single : r.params.levels = 1) (base : r.params.baseDepth ≤ 1000) :
    r.depth = r.params.baseDepth := by
  rw [BitRecord.depth, BitRecord.level_of_single single, Nat.zero_mul, Nat.add_zero, Nat.min_eq_right base]

/-- The depth, by the lemmas on the level and the clamp. -/
theorem depthFollowsTheLevel : Says.DepthFollowsTheLevel := fun r levels _ =>
  ⟨BitRecord.level_lt levels, fun _ => BitRecord.level_eq, r.depth_eq,
    fun single => ⟨BitRecord.level_of_single single, BitRecord.depth_of_single single⟩⟩

/-! ### The feed (R69 to R71) -/

theorem BitRecord.feed_of_full {r : BitRecord} {f0 : Nat}
    (full : f0 < r.params.minFeed ∨ r.wear ≤ r.params.derateStart) : r.feed f0 = f0 :=
  if_pos full

/-- Past Wd a feed that is not below Fmin lies on the line from F0 at Wd to Fmin at Weol (R70). -/
theorem BitRecord.feed_of_derated {r : BitRecord} {f0 : Nat} (feed : r.params.minFeed ≤ f0)
    (past : r.params.derateStart < r.wear) :
    r.feed f0 = r.params.minFeed
      + (f0 - r.params.minFeed) * (r.params.endOfLife - r.wear) / (r.params.endOfLife - r.params.derateStart) :=
  if_neg (by omega)

theorem BitRecord.feed_of_derated_le {r : BitRecord} {f0 : Nat} (feed : r.params.minFeed ≤ f0)
    (past : r.params.derateStart < r.wear) : r.feed f0 ≤ f0 := by
  have share : (f0 - r.params.minFeed) * (r.params.endOfLife - r.wear) / (r.params.endOfLife - r.params.derateStart)
      ≤ f0 - r.params.minFeed :=
    Nat.div_le_of_le_mul (by rw [Nat.mul_comm]; exact Nat.mul_le_mul_right _ (by omega))
  rw [BitRecord.feed_of_derated feed past]
  omega

theorem BitRecord.le_feed_of_derated {r : BitRecord} {f0 : Nat} (feed : r.params.minFeed ≤ f0)
    (past : r.params.derateStart < r.wear) : r.params.minFeed ≤ r.feed f0 := by
  rw [BitRecord.feed_of_derated feed past]
  exact Nat.le_add_right _ _

theorem clamp_eq_max_min {lo hi : Nat} (ordered : lo ≤ hi) (x : Nat) : clamp lo hi x = max lo (min hi x) := by
  unfold clamp
  split
  · omega
  · split <;> omega

/-- The feed, by F0 against Fmin and the wear against Wd; and then the override. -/
theorem feedIsDeratedAndOverridden : Says.FeedIsDeratedAndOverridden := fun u f0 _ _ =>
  ⟨fun low => BitRecord.feed_of_full (.inl low), fun _ fresh => BitRecord.feed_of_full (.inr fresh),
    fun feed past => ⟨BitRecord.feed_of_derated feed past, BitRecord.le_feed_of_derated feed past,
      BitRecord.feed_of_derated_le feed past⟩,
    clamp_eq_max_min (by decide) (u.record.feed f0 * u.feedOverride / 100)⟩

/-- Settles O40: the depth by its level, and the feed by its line and its override. -/
theorem depthAndFeedOfAGrant : Obligations.DepthAndFeedOfAGrant :=
  ⟨depthFollowsTheLevel, feedIsDeratedAndOverridden⟩

/-! ### A fault condition that ends outside RUN and HOLD (R145, R146, R153) -/

theorem faultOf_number (k : FaultKind) : faultOf k.number = some k := by
  cases k <;> rfl

theorem FaultKind.place_injective : Function.Injective FaultKind.place := fun a b same =>
  Option.some.inj (by rw [← faultOf_number a, ← faultOf_number b, FaultKind.number, FaultKind.number, same])

theorem State.fault_modifyFault_ne (s : State) {j k : FaultKind} (f : FaultEntry → FaultEntry) (other : j ≠ k) :
    (s.modifyFault k f).fault j = s.fault j := by
  have places : k.place.val ≠ j.place.val := fun h => other (FaultKind.place_injective (Fin.ext h.symm))
  simp [State.fault, State.modifyFault, Vector.getElem_set_ne, places]

theorem State.faultHolds_of_faults {s t : State} (faults : t.cell.faults = s.cell.faults) :
    t.faultHolds = s.faultHolds := by
  simp [State.faultHolds, State.fault_of_faults faults]

/-- Outside RUN and HOLD a change of the hold set has no further effect (R146). -/
theorem State.setHolds_idle {s : State} (h : HoldSet) (idle : s.cell.state = .standby ∨ s.cell.state = .park) :
    s.setHolds h = { s with cell := { s.cell with holds := h } } := by
  unfold State.setHolds
  split
  next same => rw [same]
  next => rcases idle with standby | park <;> simp [*]

/-- The end of a condition in STANDBY or PARK: the entry is no longer active, and FAULT in the hold set follows the
table (R145, R153). -/
theorem State.endCondition_idle {s : State} (k : FaultKind) (idle : s.cell.state = .standby ∨ s.cell.state = .park) :
    s.endCondition k = { s.modifyFault k (fun e => { e with active := false }) with
      cell := { (s.modifyFault k fun e => { e with active := false }).cell with
        holds := { s.cell.holds with fault := (s.endCondition k).faultHolds } } } := by
  have faults : (s.endCondition k).cell.faults = (s.modifyFault k fun e => { e with active := false }).cell.faults :=
    State.setHolds_faults _ _
  rw [State.faultHolds_of_faults faults]
  exact State.setHolds_idle _ idle

theorem State.fault_endCondition_same (s : State) (k : FaultKind) :
    (s.endCondition k).fault k = { s.fault k with active := false } := by
  simp [State.endCondition]

theorem State.fault_endCondition_ne (s : State) {j k : FaultKind} (other : j ≠ k) :
    (s.endCondition k).fault j = s.fault j := by
  simp [State.endCondition, State.fault_modifyFault_ne s _ other]

/-! ### The end of a change of the bit unit -/

theorem State.grantView_of {s t : State} (recipes : t.recipes = s.recipes) (panels : t.panels = s.panels)
    (cell : t.cell = s.cell) (scheduler : t.scheduler = s.scheduler) (spindle : t.spindle = s.spindle)
    (worn : t.bit.worn = s.bit.worn) : t.grantView = s.grantView := by
  have committed : t.hangCommitted = s.hangCommitted :=
    State.hangCommitted_of panels fun _ panel _ => by simp [State.recipeOf, recipes]
  simp [State.grantView, State.servedPanel_of_panels panels, committed, panels, cell, scheduler, spindle, worn]

@[simp] theorem State.setupBit_bit (s : State) (params : BitParams) :
    (s.setupBit params).bit = { s.bit with record := { s.bit.record with params := params } } := by
  simp [State.setupBit]

/-- A change of the bit parameters alone, with a save queued: nothing that is re-examined has changed. -/
theorem commit_setupBit (s : State) (params : BitParams) :
    commit s (s.setupBit params) = (s.setupBit params).storeBegin := by
  refine commit_eq_storeBegin ?panels ?gripper ?magazine ?insertion ?permitted ?view
  case permitted => simp [State.setupBit, State.permitted]
  case view => apply State.grantView_of <;> simp [State.setupBit]
  all_goals simp [State.setupBit]

/-! ### Access to the bit (R72, R73) -/

theorem State.bitAccess_iff (s : State) :
    s.bitAccess = true ↔ (s.cell.state = .standby ∨ s.cell.state = .park) ∧ s.scheduler.window = [] := by
  simp [State.bitAccess]

theorem State.no_bitAccess {s : State}
    (barred : ¬ (s.cell.state = .standby ∨ s.cell.state = .park) ∨ s.scheduler.window ≠ []) : s.bitAccess = false := by
  rw [Bool.eq_false_iff, Ne, State.bitAccess_iff]
  tauto

/-! ### BIT_CHANGE (R72) -/

/-- The bit unit with a bit of this serial and wear mounted. -/
def BitUnit.mounted (u : BitUnit) (serial wear : Nat) : BitUnit :=
  { u with record := { u.record with serial := serial, wear := wear }, worn := false }

theorem State.mountBit_eq (s : State) (serial wear : Nat) :
    s.mountBit serial wear = ({ s with bit := s.bit.mounted serial wear }.endCondition .bitWorn).queueSave .bit := rfl

@[simp] theorem State.mountBit_frame (s : State) (serial wear : Nat) :
    (s.mountBit serial wear).recipes = s.recipes ∧ (s.mountBit serial wear).panels = s.panels ∧
    (s.mountBit serial wear).scheduler = s.scheduler ∧ (s.mountBit serial wear).gripper = s.gripper ∧
    (s.mountBit serial wear).spindle = s.spindle ∧ (s.mountBit serial wear).magazine = s.magazine ∧
    (s.mountBit serial wear).elevator = s.elevator ∧ (s.mountBit serial wear).insertion = s.insertion ∧
    (s.mountBit serial wear).constants = s.constants ∧ (s.mountBit serial wear).lines = s.lines ∧
    (s.mountBit serial wear).starting = s.starting ∧ (s.mountBit serial wear).pending = s.pending ∧
    (s.mountBit serial wear).freeIndex = s.freeIndex := by
  simp [State.mountBit_eq]

@[simp] theorem State.mountBit_bit (s : State) (serial wear : Nat) :
    (s.mountBit serial wear).bit = s.bit.mounted serial wear := by
  simp [State.mountBit_eq]

theorem State.mountBit_cell (s : State) (serial wear : Nat) :
    (s.mountBit serial wear).cell = ({ s with bit := s.bit.mounted serial wear }.endCondition .bitWorn).cell := by
  simp [State.mountBit_eq]

/-- In STANDBY and PARK the mounting of a bit ends BIT_WORN and re-evaluates FAULT in the hold set; the rest of cell
control stays (R145, R153). -/
theorem State.mountBit_cell_idle {s : State} (serial wear : Nat)
    (idle : s.cell.state = .standby ∨ s.cell.state = .park) :
    (s.mountBit serial wear).cell = { (s.modifyFault .bitWorn fun e => { e with active := false }).cell with
      holds := { s.cell.holds with fault := (s.mountBit serial wear).faultHolds } } := by
  rw [State.faultHolds_of_faults (congrArg (·.faults) (s.mountBit_cell serial wear)), State.mountBit_cell]
  exact congrArg (·.cell) (State.endCondition_idle (s := { s with bit := s.bit.mounted serial wear }) .bitWorn idle)

/-- The kinds of the fault table after the mounting of a bit (R72, R153). -/
theorem State.mountBit_faults (s : State) (serial wear : Nat) :
    (s.mountBit serial wear).fault .bitWorn = { s.fault .bitWorn with active := false }
      ∧ ∀ k, k ≠ .bitWorn → (s.mountBit serial wear).fault k = s.fault k := by
  have same k := State.fault_of_faults (congrArg (·.faults) (s.mountBit_cell serial wear)) k
  refine ⟨?_, fun k other => ?_⟩
  · rw [same, State.fault_endCondition_same]; rfl
  · rw [same, State.fault_endCondition_ne _ other]; rfl

/-- The store that an automatic save leaves depends on the store alone (R171). -/
theorem State.queueSave_store {s t : State} (r : RecordId) (store : t.store = s.store) :
    (t.queueSave r).store = (s.queueSave r).store := by
  unfold State.queueSave
  rw [store]
  split
  · exact store
  · simp [State.setPending, store]

/-- The end of BIT_WORN leaves the store and its contents to the queued save (R170). -/
theorem commit_mountBit_store (s : State) (serial wear : Nat) :
    (commit s (s.mountBit serial wear)).store
      = (State.storeBegin ({ s with bit := s.bit.mounted serial wear }.queueSave .bit)).store := by
  rw [commit_store]
  refine State.storeBegin_store ?store ?constants ?bit ?register
  case store => exact State.queueSave_store .bit (by simp)
  all_goals simp

/-- BIT_CHANGE: by the wear against Weol, and then by the access to the bit. -/
theorem bitChangeMountsABit : Says.BitChangeMountsABit := by
  intro s p serial wear reaches
  refine ⟨fun used => ?_, fun fresh => ⟨fun barred => ?_, fun idle noGrant => ?_⟩⟩
  · exact refuses_of_handler reaches rfl (if_pos used)
  · exact refuses_of_handler reaches rfl (by simp [fresh, State.no_bitAccess barred])
  · have access : s.bitAccess = true := s.bitAccess_iff.mpr ⟨idle, noGrant⟩
    have cell : (commit s (s.mountBit serial.toNat wear.toNat)).cell = (s.mountBit serial.toNat wear.toNat).cell := by
      simp
    have table := congrArg (·.faults) cell
    have sameFault := State.fault_of_faults table
    obtain ⟨ended, others⟩ := s.mountBit_faults serial.toNat wear.toNat
    obtain ⟨magazine, gripper, spindle⟩ :=
      commit_quiet s (s.mountBit serial.toNat wear.toNat) (by simp) (by simp) (by simp)
    refine ⟨commit s (s.mountBit serial.toNat wear.toNat), answers_of_handler reaches rfl ?answer, ?bit,
      (sameFault _).trans ended, fun k other => (sameFault k).trans (others k other), ?state, ?parkTimer, ?holds,
      ?lastRaised, ?store, ?frame⟩
    case answer => simp [fresh, access, accept, conclude, BitUnit.mounted, n32]
    case bit => simp [BitUnit.mounted]
    case holds =>
      rw [State.faultHolds_of_faults table, cell]
      exact congrArg (·.holds) (State.mountBit_cell_idle _ _ idle)
    case store => simpa using commit_mountBit_store s serial.toNat wear.toNat
    case frame => simp [magazine, gripper, spindle]
    all_goals
      rw [cell, State.mountBit_cell_idle _ _ idle]
      rfl

/-! ### BIT_SETUP (R73) -/

theorem BitParams.inRange_iff (q : BitParams) :
    q.inRange = true ↔ 1 ≤ q.levels ∧ q.levels ≤ 6 ∧ 1 ≤ q.span ∧ q.span ≤ 10000000 ∧ q.baseDepth ≤ 1000
      ∧ 1 ≤ q.levelStep ∧ q.levelStep ≤ 100 ∧ q.derateStart < q.endOfLife ∧ 1 ≤ q.endOfLife ∧ q.endOfLife ≤ 100000000
      ∧ 1 ≤ q.minFeed ∧ q.minFeed ≤ 1000 := by
  simp [BitParams.inRange, and_assoc]

/-- The parameters that the operands of BIT_SETUP give (R73). -/
def BitParams.ofOperands (n : Byte) (span : Word32) (z0 : Word16) (d : Byte) (wd weol : Word32) (fmin : Word16) :
    BitParams :=
  { levels := n.toNat, span := span.toNat, baseDepth := z0.toNat, levelStep := d.toNat, derateStart := wd.toNat,
    endOfLife := weol.toNat, minFeed := fmin.toNat }

/-- The answer of BIT_SETUP is the parameters as they came (R73). -/
theorem BitParams.bytes_ofOperands (n : Byte) (span : Word32) (z0 : Word16) (d : Byte) (wd weol : Word32)
    (fmin : Word16) : (BitParams.ofOperands n span z0 d wd weol fmin).bytes
      = [n] ++ bytes32 span ++ bytes16 z0 ++ [d] ++ bytes32 wd ++ bytes32 weol ++ bytes16 fmin := by
  simp [BitParams.bytes, BitParams.ofOperands, n8, n16, n32]

/-- The rule of BIT_SETUP for its parameters: the three refusals in their order, and then the replacement (R73). -/
def State.setupReply (s : State) (q : BitParams) : State × Reply :=
  if !q.inRange then refuse s .outOfRange
  else if !s.bitAccess || s.bit.worn then refuse s .wrongState
  else if q.endOfLife ≤ s.bit.record.wear then refuse s .limitBelowUse
  else accept s (s.setupBit q) fun t => t.bit.record.params.bytes

theorem exec_bitSetup (p : Port) (n : Byte) (span : Word32) (z0 : Word16) (d : Byte) (wd weol : Word32) (fmin : Word16)
    (s : State) : exec (.bitSetup p n span z0 d wd weol fmin) s
      = .next (s.request p 28 fun u => u.setupReply (BitParams.ofOperands n span z0 d wd weol fmin)) := rfl

theorem State.setupReply_outOfRange {s : State} {q : BitParams} (outside : q.inRange = false) :
    s.setupReply q = refuse s .outOfRange := by
  simp [State.setupReply, outside]

theorem State.setupReply_wrongState {s : State} {q : BitParams} (inRange : q.inRange = true)
    (barred : ¬ (s.bitAccess = true ∧ s.bit.worn = false)) : s.setupReply q = refuse s .wrongState := by
  have barredOrWorn : (!s.bitAccess || s.bit.worn) = true := by
    cases access : s.bitAccess <;> simp_all
  simp [State.setupReply, inRange, barredOrWorn]

theorem State.setupReply_limitBelowUse {s : State} {q : BitParams} (inRange : q.inRange = true)
    (allowed : s.bitAccess = true ∧ s.bit.worn = false) (used : q.endOfLife ≤ s.bit.record.wear) :
    s.setupReply q = refuse s .limitBelowUse := by
  simp [State.setupReply, inRange, allowed, used]

theorem State.setupReply_accepted {s : State} {q : BitParams} (inRange : q.inRange = true)
    (allowed : s.bitAccess = true ∧ s.bit.worn = false) (usable : s.bit.record.wear < q.endOfLife) :
    s.setupReply q = ((s.setupBit q).storeBegin, { verdict := .accepted, body := q.bytes }) := by
  have notUsed : ¬ q.endOfLife ≤ s.bit.record.wear := Nat.not_le.mpr usable
  simp [State.setupReply, inRange, allowed, notUsed, accept, conclude, commit_setupBit]

/-- BIT_SETUP: by the ranges, by the access to the bit, and by Weol against the wear. -/
theorem bitSetupReplacesTheParameters : Says.BitSetupReplacesTheParameters := by
  intro s p n span z0 d wd weol fmin reaches i inRange allowedNow
  have runs := exec_bitSetup p n span z0 d wd weol fmin s
  have ranges : (BitParams.ofOperands n span z0 d wd weol fmin).inRange = true ↔ inRange := BitParams.inRange_iff _
  have access : s.bitAccess = true ∧ s.bit.worn = false ↔ allowedNow := by rw [State.bitAccess_iff, and_assoc]
  refine ⟨fun outside => ?_, fun inside barred => ?_, fun inside allowed used => ?_, fun inside allowed usable => ?_⟩
  · have outside : (BitParams.ofOperands n span z0 d wd weol fmin).inRange = false :=
      Bool.eq_false_iff.mpr (mt ranges.mp outside)
    exact refuses_of_handler reaches runs (State.setupReply_outOfRange outside)
  · exact refuses_of_handler reaches runs (State.setupReply_wrongState (ranges.mpr inside) (mt access.mp barred))
  · exact refuses_of_handler reaches runs
      (State.setupReply_limitBelowUse (ranges.mpr inside) (access.mpr allowed) used)
  · rw [← BitParams.bytes_ofOperands]
    exact answers_of_handler reaches runs
      (State.setupReply_accepted (ranges.mpr inside) (access.mpr allowed) usable)

/-- Settles O39: BIT_CHANGE and BIT_SETUP, each by its checks. -/
theorem bitChangeAndSetup : Obligations.BitChangeAndSetup :=
  ⟨bitChangeMountsABit, bitSetupReplacesTheParameters⟩

end Sys2Proof.Machine

/-! Proofs about cell control (9.2, 9.4): what START, the entry to PARK and to STANDBY, and a change of the hold set
do to the part, CELL_START, CELL_RESUME, CELL_PARK and CELL_STOP (R148, R149, R151, R152), and FAULT_CLEAR (R156). -/

namespace Sys2Proof.Machine

/-! ### The store after a change that leaves the records alone -/

/-- The end of a change that leaves the store and the working records alone only lets a free store begin a pending
write (R170). -/
theorem commit_store_of_records {before after : State} (store : after.store = before.store)
    (constants : after.constants = before.constants) (bit : after.bit = before.bit)
    (magazine : after.magazine = before.magazine) : (commit before after).store = before.storeBegin.store :=
  (commit_store before after).trans
    (State.storeBegin_store store constants bit (congrArg (·.register) magazine))

/-! ### RUN or HOLD by the hold set, and START (R83, R84, R148, R151) -/

theorem State.start_spindle (s : State) : s.start.spindle = s.startedSpindle := by
  unfold State.start
  split <;> simp [Timer.load]

@[simp] theorem State.goToWork_frame (s : State) :
    s.goToWork.recipes = s.recipes ∧ s.goToWork.panels = s.panels ∧ s.goToWork.scheduler = s.scheduler ∧
    s.goToWork.gripper = s.gripper ∧ s.goToWork.bit = s.bit ∧ s.goToWork.magazine = s.magazine ∧
    s.goToWork.elevator = s.elevator ∧ s.goToWork.insertion = s.insertion ∧ s.goToWork.ports = s.ports ∧
    s.goToWork.constants = s.constants ∧ s.goToWork.store = s.store ∧ s.goToWork.lines = s.lines ∧
    s.goToWork.starting = s.starting ∧ s.goToWork.pending = s.pending ∧ s.goToWork.freeIndex = s.freeIndex := by
  unfold State.goToWork
  split <;> simp

theorem State.goToWork_cell (s : State) :
    s.goToWork.cell = { s.cell with state := if s.cell.holds.isEmpty then .run else .hold
                                    parkTimer := if s.cell.holds.isEmpty then none else s.loadedPark } := by
  cases empty : s.cell.holds.isEmpty <;> simp [State.goToWork, empty, State.enterRun, State.enterHold, Timer.load]

theorem State.goToWork_spindle (s : State) : s.goToWork.spindle = s.startedSpindle := by
  unfold State.goToWork
  rw [State.start_spindle]
  split <;> rfl

theorem State.tryWork_guardOpen {s : State} (guard : s.lines.guard = false) : s.tryWork = refuse s .guardOpen := by
  simp [State.tryWork, guard]

theorem State.tryWork_faulted {s : State} (guard : s.lines.guard = true) (faulted : s.spindle.state = .faulted) :
    s.tryWork = refuse s .wrongState := by
  simp [State.tryWork, guard, faulted]

theorem State.tryWork_accepted {s : State} (guard : s.lines.guard = true) (sound : s.spindle.state ≠ .faulted) :
    s.tryWork = (commit s s.goToWork,
      { verdict := .accepted, body := [if s.cell.holds.isEmpty then 2 else 3] }) := by
  cases empty : s.cell.holds.isEmpty <;>
    simp [State.tryWork, guard, sound, accept, conclude, State.cellBody, State.goToWork_cell, empty, CellState.code, n8]

/-- CELL_START and CELL_RESUME: one rule, from STANDBY for the one and from PARK for the other. -/
theorem startAndResumeGoToWork : Says.StartAndResumeGoToWork := by
  intro s p x listed reaches
  have runs : exec x.1 s = .next (s.request p x.2.1 fun u =>
      if u.cell.state = x.2.2 then u.tryWork else refuse u .wrongState) := by
    simp only [List.mem_cons, List.not_mem_nil, or_false] at listed
    rcases listed with rfl | rfl <;> rfl
  refine ⟨fun elsewhere => ?_, fun there => ⟨fun guard => ?_, fun guard faulted => ?_, fun guard sound => ?_⟩⟩
  · exact refuses_of_handler reaches runs (if_neg elsewhere)
  · exact refuses_of_handler reaches runs ((if_pos there).trans (State.tryWork_guardOpen guard))
  · exact refuses_of_handler reaches runs ((if_pos there).trans (State.tryWork_faulted guard faulted))
  · obtain ⟨magazine, gripper, spindle⟩ := commit_quiet s s.goToWork (by simp) (by simp) (by simp)
    refine ⟨commit s s.goToWork,
      answers_of_handler reaches runs ((if_pos there).trans (State.tryWork_accepted guard sound)), ?cell,
      spindle.trans s.goToWork_spindle, ?store, ?frame⟩
    case cell => simpa using s.goToWork_cell
    case store => apply commit_store_of_records <;> simp
    case frame => simp [magazine, gripper]

/-! ### The grants revoked and the spindle stopped (R41, R42, R91) -/

theorem State.revokeAll_scheduler (s : State) :
    s.revokeAll.scheduler
      = { s.scheduler with window := s.scheduler.window.map fun g => { g with live := false } } := by
  simp [State.revokeAll, State.revoke_scheduler]

theorem State.revoke_keepsPending (s : State) (test : Grant → Bool) : s.KeepsPending (s.revoke test) := by
  unfold State.revoke
  dsimp only
  split
  · exact State.KeepsPending.trans (.of_ports rfl) (State.post_keepsPending _ _ _)
  · exact .of_ports rfl

/-- A change that leaves the ports alone, and then revokes every grant, takes no kind back. -/
theorem State.revokeAll_keepsPending {s u : State} (ports : u.ports = s.ports) : s.KeepsPending u.revokeAll :=
  (State.KeepsPending.of_ports ports).trans (u.revoke_keepsPending _)

theorem State.revokeAll_posts {s : State} (live : (s.scheduler.window.any fun g => g.live) = true) :
    s.revokeAll.isPending .router .grantRevoked = true := by
  obtain ⟨g, inWindow, isLive⟩ := List.any_eq_true.mp live
  exact State.revoke_posts inWindow rfl isLive

theorem State.stopSpindle_spindle (s : State) : SpindleStopped s s.stopSpindle := by
  unfold State.stopSpindle SpindleStopped
  split <;> simp

theorem State.stopSpindle_keepsPending (s : State) : s.KeepsPending s.stopSpindle := by
  unfold State.stopSpindle
  split
  · exact State.revokeAll_keepsPending rfl
  · exact .refl s

/-- A stop of the spindle finds nothing left to revoke in a window whose grants are all REVOKED. -/
theorem State.stopSpindle_scheduler_of_revokeAll (s : State) :
    s.revokeAll.stopSpindle.scheduler = s.revokeAll.scheduler := by
  unfold State.stopSpindle
  split
  · simp [State.revokeAll_scheduler, Function.comp_def]
  · rfl

/-! ### The entry to PARK and to STANDBY (R149, R152) -/

/-- What the entry to PARK and to STANDBY share: the cell state, the timer stopped, every grant revoked and the spindle
stopped. -/
def State.broughtToRest (s : State) (st : CellState) : State :=
  { s with cell := { s.cell with state := st, parkTimer := none } }.revokeAll.stopSpindle

theorem State.enterPark_eq (s : State) : s.enterPark = (s.broughtToRest .park).queueSave .bit := rfl

theorem State.enterStandby_eq (s : State) : s.enterStandby = s.broughtToRest .standby := rfl

@[simp] theorem State.broughtToRest_frame (s : State) (st : CellState) :
    (s.broughtToRest st).recipes = s.recipes ∧ (s.broughtToRest st).panels = s.panels ∧
    (s.broughtToRest st).gripper = s.gripper ∧ (s.broughtToRest st).bit = s.bit ∧
    (s.broughtToRest st).magazine = s.magazine ∧ (s.broughtToRest st).elevator = s.elevator ∧
    (s.broughtToRest st).insertion = s.insertion ∧ (s.broughtToRest st).constants = s.constants ∧
    (s.broughtToRest st).store = s.store ∧ (s.broughtToRest st).lines = s.lines ∧
    (s.broughtToRest st).starting = s.starting ∧ (s.broughtToRest st).pending = s.pending ∧
    (s.broughtToRest st).freeIndex = s.freeIndex := by
  simp [State.broughtToRest]

@[simp] theorem State.broughtToRest_cell (s : State) (st : CellState) :
    (s.broughtToRest st).cell = { s.cell with state := st, parkTimer := none } := by
  simp [State.broughtToRest]

theorem State.broughtToRest_spindle (s : State) (st : CellState) : SpindleStopped s (s.broughtToRest st) := by
  have stopped := State.stopSpindle_spindle { s with cell := { s.cell with state := st, parkTimer := none } }.revokeAll
  simpa [State.broughtToRest, SpindleStopped] using stopped

theorem State.broughtToRest_window (s : State) (st : CellState) : WindowRevoked s (s.broughtToRest st) :=
  ⟨(State.stopSpindle_scheduler_of_revokeAll _).trans (State.revokeAll_scheduler _),
    fun live => State.stopSpindle_keepsPending _ _ _ (State.revokeAll_posts live)⟩

/-! ### The end of a change that brings the cell to rest -/

theorem State.permitted_of_state {s : State} (state : s.cell.state ≠ .run) : s.permitted = false := by
  simp [State.permitted, state]

/-- A change that takes the cell out of RUN ends permission, and the router is told of it (R25). -/
theorem commit_posts_cuttingStopped {before after : State} (permitted : before.permitted = true)
    (state : after.cell.state ≠ .run) : (commit before after).isPending .router .cuttingStopped = true := by
  have ended : (before.handOver (before.refreshWait (before.refreshFull after))).permitted = false :=
    State.permitted_of_state (by simpa using state)
  refine State.storeBegin_keepsPending _ _ _ (State.postIf_keepsPending _ _ _ _ _ _ ?_)
  simp only [permitted, ended, Bool.not_false, Bool.and_self, State.postIf, if_true]
  exact State.isPending_post _ (by decide)

/-- What `WindowRevoked` says survives the end of a change. -/
theorem WindowRevoked.commit {s u : State} (revoked : WindowRevoked s u) : WindowRevoked s (commit s u) := by
  obtain ⟨scheduler, told⟩ := revoked
  exact ⟨by simpa using scheduler, fun live => commit_keepsPending s u _ _ (told live)⟩

theorem WindowRevoked.of_queueSave {s u : State} (r : RecordId) (revoked : WindowRevoked s u) :
    WindowRevoked s (u.queueSave r) := by
  obtain ⟨scheduler, told⟩ := revoked
  exact ⟨by simpa using scheduler, fun live => State.KeepsPending.of_ports (by simp) _ _ (told live)⟩

/-- A command that parks the cell leaves it as R149 says. -/
theorem commit_enterPark (s : State) : ParkEntered s (commit s s.enterPark) := by
  rw [State.enterPark_eq]
  obtain ⟨magazine, gripper, spindle⟩ :=
    commit_quiet s ((s.broughtToRest .park).queueSave .bit) (by simp) (by simp) (by simp)
  refine ⟨by simp, ((s.broughtToRest_window .park).of_queueSave .bit).commit, ?spindle, ?store,
    fun permitted => commit_posts_cuttingStopped permitted (by simp), ?frame⟩
  case spindle => simpa [SpindleStopped, spindle] using s.broughtToRest_spindle .park
  case store =>
    rw [commit_store]
    refine State.storeBegin_store (State.queueSave_store .bit (by simp)) ?_ ?_ ?_ <;> simp
  case frame => simp [magazine, gripper]

/-- A command that stops the cell leaves it as R152 says; no save is queued. -/
theorem commit_enterStandby (s : State) :
    (commit s s.enterStandby).cell = { s.cell with state := .standby, parkTimer := none }
      ∧ WindowRevoked s (commit s s.enterStandby) ∧ SpindleStopped s (commit s s.enterStandby)
      ∧ (commit s s.enterStandby).store = s.storeBegin.store
      ∧ (s.permitted = true → (commit s s.enterStandby).isPending .router .cuttingStopped = true)
      ∧ { commit s s.enterStandby with
          cell := s.cell, scheduler := s.scheduler, spindle := s.spindle, store := s.store, ports := s.ports } = s := by
  rw [State.enterStandby_eq]
  obtain ⟨magazine, gripper, spindle⟩ := commit_quiet s (s.broughtToRest .standby) (by simp) (by simp) (by simp)
  refine ⟨by simp, (s.broughtToRest_window .standby).commit, spindle.trans (s.broughtToRest_spindle .standby), ?store,
    fun permitted => commit_posts_cuttingStopped permitted (by simp), ?frame⟩
  case store => apply commit_store_of_records <;> simp
  case frame => simp [magazine, gripper]

/-! ### CELL_PARK and CELL_STOP (R149, R152) -/

/-- CELL_PARK and CELL_STOP, each by the cell state. -/
theorem parkAndStopBringTheCellToRest : Says.ParkAndStopBringTheCellToRest := by
  refine fun s p => ⟨fun reaches => ⟨fun early => ?_, fun parked => ?_, fun working => ?_⟩,
    fun reaches => ⟨fun early => ?_, fun stopped => ?_, fun active => ?_⟩⟩
  · refine refuses_of_handler reaches rfl ?_
    rcases early with state | state <;> simp [state]
  · exact answers_of_handler reaches rfl (by simp [parked, respond, State.cellBody, CellState.code, n8])
  · have body : (commit s s.enterPark).cellBody = [4] := by
      simp [State.cellBody, State.enterPark_eq, CellState.code, n8]
    refine ⟨_, answers_of_handler reaches rfl ?_, commit_enterPark s⟩
    rcases working with state | state <;> simp [state, accept, conclude, body]
  · exact refuses_of_handler reaches rfl (by simp [early])
  · exact answers_of_handler reaches rfl (by simp [stopped, respond, State.cellBody, CellState.code, n8])
  · have body : (commit s s.enterStandby).cellBody = [1] := by
      simp [State.cellBody, State.enterStandby_eq, CellState.code, n8]
    refine ⟨_, answers_of_handler reaches rfl ?_, commit_enterStandby s⟩
    rcases active with (state | state) | state <;> simp [state, accept, conclude, body]

/-- Settles O17: CELL_START and CELL_RESUME by their common rule, CELL_PARK and CELL_STOP by the cell state. -/
theorem cellStatesChangeByTheirRequests : Obligations.CellStatesChangeByTheirRequests :=
  ⟨startAndResumeGoToWork, parkAndStopBringTheCellToRest⟩

/-! ### A change of the hold set (R145, R146) -/

theorem State.setHolds_holds (s : State) (h : HoldSet) : (s.setHolds h).cell.holds = h := by
  unfold State.setHolds
  split
  next same => exact same.symm
  next => cases s.cell.state <;> cases h.isEmpty <;> rfl

theorem State.setHolds_lastRaised (s : State) (h : HoldSet) : (s.setHolds h).cell.lastRaised = s.cell.lastRaised := by
  unfold State.setHolds
  split
  · rfl
  · cases s.cell.state <;> cases h.isEmpty <;> rfl

/-- A hold set that stays empty in RUN leaves RUN; in HOLD, where it was not empty, the cell goes to RUN when it empties
(R146). -/
theorem State.setHolds_state {s : State} {h : HoldSet} (run : s.cell.state = .run → h.isEmpty = true)
    (hold : s.cell.state = .hold → s.cell.holds.isEmpty = false) :
    (s.setHolds h).cell.state = if s.cell.state = .hold ∧ h.isEmpty = true then .run else s.cell.state := by
  unfold State.setHolds
  split
  next same =>
    subst same
    exact (if_neg fun both => by simp [hold both.1] at both).symm
  next =>
    cases state : s.cell.state with
    | run => simp [run state, state]
    | hold => cases empty : h.isEmpty <;> simp [state, State.enterRun]
    | unconfigured | standby | park => simp [state]

/-! ### FAULT_CLEAR (R156) -/

theorem faultOf_outside {n : Nat} (outside : n < 1 ∨ 12 < n) : faultOf n = none := by
  rcases outside with zero | large
  · exact if_pos (by omega)
  · have past : allFaults.length ≤ n - 1 := by
      simp only [allFaults, List.length_cons, List.length_nil]
      omega
    exact (if_neg (by omega)).trans (List.getElem?_eq_none past)

/-- The table with one kind's latched status clear, before FAULT is re-evaluated. -/
def State.unlatched (s : State) (k : FaultKind) : State := s.modifyFault k fun e => { e with latched := false }

theorem State.clearLatch_eq (s : State) (k : FaultKind) :
    s.clearLatch k = (s.unlatched k).setHolds { s.cell.holds with fault := (s.unlatched k).faultHolds } := rfl

theorem State.fault_clearLatch_same (s : State) (k : FaultKind) :
    (s.clearLatch k).fault k = { s.fault k with latched := false } := by
  simp [State.clearLatch]

theorem State.fault_clearLatch_ne (s : State) {j k : FaultKind} (other : j ≠ k) :
    (s.clearLatch k).fault j = s.fault j := by
  simp [State.clearLatch, State.fault_modifyFault_ne s _ other]

@[simp] theorem State.clearLatch_frame (s : State) (k : FaultKind) :
    (s.clearLatch k).recipes = s.recipes ∧ (s.clearLatch k).panels = s.panels ∧
    (s.clearLatch k).scheduler = s.scheduler ∧ (s.clearLatch k).gripper = s.gripper ∧
    (s.clearLatch k).bit = s.bit ∧ (s.clearLatch k).spindle = s.spindle ∧
    (s.clearLatch k).magazine = s.magazine ∧ (s.clearLatch k).elevator = s.elevator ∧
    (s.clearLatch k).insertion = s.insertion ∧ (s.clearLatch k).ports = s.ports ∧
    (s.clearLatch k).constants = s.constants ∧ (s.clearLatch k).store = s.store ∧
    (s.clearLatch k).lines = s.lines ∧ (s.clearLatch k).starting = s.starting ∧
    (s.clearLatch k).pending = s.pending ∧ (s.clearLatch k).freeIndex = s.freeIndex := by
  simp [State.clearLatch]

theorem State.clearLatch_holds (s : State) (k : FaultKind) :
    (s.clearLatch k).cell.holds = { s.cell.holds with fault := (s.clearLatch k).faultHolds } := by
  have table : (s.clearLatch k).cell.faults = (s.unlatched k).cell.faults := State.setHolds_faults _ _
  rw [State.faultHolds_of_faults table, State.clearLatch_eq, State.setHolds_holds]

/-- Clearing a latch makes no kind hold that did not (R145). -/
theorem State.faultHolds_of_unlatched {s : State} {k : FaultKind} (holds : (s.unlatched k).faultHolds = true) :
    s.faultHolds = true := by
  obtain ⟨j, listed, entry⟩ := List.any_eq_true.mp holds
  refine List.any_eq_true.mpr ⟨j, listed, ?_⟩
  by_cases same : j = k
  · subst same
    have cleared : (s.unlatched j).fault j = { s.fault j with latched := false } := State.fault_modifyFault _ _ _
    rw [cleared] at entry
    simp_all [FaultEntry.holds]
  · rwa [State.unlatched, State.fault_modifyFault_ne s _ same] at entry

/-- In RUN no kind holds, so a cleared latch leaves the hold set empty. -/
theorem HoldsSafe.empty_of_unlatched {s : State} (safe : HoldsSafe s) (k : FaultKind) (run : s.cell.state = .run) :
    HoldSet.isEmpty { s.cell.holds with fault := (s.unlatched k).faultHolds } = true := by
  obtain ⟨emptyInRun, -, fault⟩ := safe
  have empty := emptyInRun run
  have noneHolds : s.faultHolds = false := by
    rw [← fault]
    simp_all [HoldSet.isEmpty]
  have noneStill : (s.unlatched k).faultHolds = false :=
    Bool.eq_false_iff.mpr fun holds => by simp [State.faultHolds_of_unlatched holds] at noneHolds
  rw [noneStill, ← noneHolds, ← fault]
  exact empty

theorem State.clearLatch_state {s : State} (safe : HoldsSafe s) (k : FaultKind) :
    (s.clearLatch k).cell.state
      = if s.cell.state = .hold ∧ (s.clearLatch k).cell.holds.isEmpty = true then .run else s.cell.state := by
  have ⟨_, notEmptyInHold, _⟩ := safe
  rw [State.clearLatch_eq, State.setHolds_holds]
  exact State.setHolds_state (s := s.unlatched k) (safe.empty_of_unlatched k) notEmptyInHold

/-- Settles O20: by the number of the kind; the cleared entry, the hold set and the cell state are those of the change,
which no re-examination at its end touches. -/
theorem faultClearClearsTheLatch : Obligations.FaultClearClearsTheLatch := by
  intro s p kind reaches safe
  refine ⟨fun outside => ?_, fun k number => ?_⟩
  · exact refuses_of_handler reaches rfl (by simp [faultOf_outside outside])
  · have cell : (commit s (s.clearLatch k)).cell = (s.clearLatch k).cell := by simp
    have table := congrArg (·.faults) cell
    have sameFault := State.fault_of_faults table
    obtain ⟨magazine, gripper, spindle⟩ := commit_quiet s (s.clearLatch k) (by simp) (by simp) (by simp)
    refine ⟨commit s (s.clearLatch k), ?answer, (sameFault k).trans (s.fault_clearLatch_same k),
      fun j other => (sameFault j).trans (s.fault_clearLatch_ne other), ?holds, ?lastRaised, ?state, ?store, ?frame⟩
    case answer =>
      have named : faultOf kind.toNat = some k := by rw [number, faultOf_number]
      exact answers_of_handler reaches rfl (by simp only [named]; rfl)
    case holds =>
      rw [State.faultHolds_of_faults table, cell]
      exact s.clearLatch_holds k
    case lastRaised =>
      rw [cell]
      exact State.setHolds_lastRaised _ _
    case state =>
      rw [cell]
      exact State.clearLatch_state safe k
    case store => apply commit_store_of_records <;> simp
    case frame => simp [magazine, gripper, spindle]

end Sys2Proof.Machine

/-! The laws of the device (O32): a state that keeps them all and a step that breaks one. -/

namespace Sys2Proof.Machine

/-! ### A manifest entry of height 0 (R104) -/

/-- A recipe of one board of height class 2 with one tab, of role HOLD; it passes the checks of R6. -/
def tallRecipe : Recipe :=
  { header := { boardCount := 1, rpm := 30000, feed := 300, cutLimit := 4000 }
    items := [{ definition := some { rank := 1, height := 2, pickX := 0, pickY := 0, tabCount := 1 }
                tabs := #v[some { role := 1, x := 0, y := 0, heading := 0, cutLength := 50 },
                  none, none, none, none, none, none, none] }] }

/-- The board of that recipe in doubt at slot 1, its tab cut. -/
def doubtedBoard : Board :=
  { rank := 1, height := 2, xout := false, state := .verifying, freeUncut := 0, holdUncut := 0,
    review := some .seatDoubt, destination := some (.slot 1), divert := false, tabs := [.cut] }

/-- A magazine of two slots, both in doubt for that board, whose manifest has an entry at slot 2 of height 0: no slot is
FILLED for it, and none needs to be. -/
def doubtedSession : Session :=
  let slot : Slot := { state := .doubt { serial := 7, board := 1 }, failures := 0 }
  { tag := 9, typeNumber := 1, type := { MagType.builtIn with slotCount := 2 }, condemned := false,
    slots := [slot, slot], manifest := [{ stow := 1, first := 2, height := 0, board := { serial := 3, board := 1 } }],
    stow := 2, full := none }

/-- The part with that board and that magazine, and RESOLVE_SLOT with PRESENT for slot 1 at the front of the queue. -/
def doubtedState : State :=
  let panel : Panel := { state := .draining, recipe := 0, serial := 7, boards := [doubtedBoard], stowed := 0,
                         rejected := 0, lost := 0, abandoned := 0 }
  { State.reset with
    recipes := #v[.valid tallRecipe, .empty, .empty, .empty]
    panels := { records := #v[some panel, none, none, none], startOrder := [0] }
    magazine := { State.reset.magazine with session := some doubtedSession }
    pending := [.resolveSlot .cell 1 0] }

theorem doubtedState_panelsSafe : PanelsSafe doubtedState := by
  intro i panel record
  match i with
  | 0 =>
      obtain rfl := Option.some.inj record
      refine ⟨⟨tallRecipe, rfl⟩, fun j other stands _ => ?_⟩
      match j with
      | 0 => rfl
      | 1 | 2 | 3 => cases stands
  | 1 | 2 | 3 => cases record

/-- The state keeps every law of the device. -/
theorem doubtedState_deviceSafe : DeviceSafe doubtedState :=
  ⟨doubtedState_panelsSafe, by decide, by decide, by decide, by decide, by decide, by decide, by decide, by decide⟩

/-- Refutes O32: ManifestSafe lets a manifest hold an entry of height 0, here at slot 2, because a run of no slots is
FILLED whatever the slots say. RESOLVE_SLOT then stows a board of height class 2 at slots 1 and 2, and neither of the
two entries lies before the other. -/
theorem not_everyStepKeepsTheDeviceLaws : ¬ Obligations.EveryStepKeepsTheDeviceLaws := by
  intro keeps
  obtain ⟨t, steps, broken⟩ : ∃ t, step doubtedState = .next t ∧ ¬ ManifestSafe t := ⟨_, rfl, by decide⟩
  obtain ⟨-, -, -, -, -, -, -, -, manifest⟩ := keeps doubtedState t doubtedState_deviceSafe steps
  exact broken manifest

end Sys2Proof.Machine

/-! What a command can do, said once (R160 to R173): the changes that the rules make before the end of a change, with the
guards under which they make them, and the ways in which a command ends. Every property of all commands is read off these
two lists. -/

namespace Sys2Proof.Machine

open Sys2Proof

/-! ### The changes -/

/-- The states that a command's own rule can make of the part, before the end of the change; an event without an effect
of its own makes none (`idle`). -/
inductive Changes (s : State) : Instr → State → Prop
  | idle {i} (event : i.portOf = none) : Changes s i s
  | holdSet {p} : Changes s (.holdSet p) (s.setHolds (s.cell.holds.setPort p true))
  | holdClear {p} : Changes s (.holdClear p) (s.setHolds (s.cell.holds.setPort p false))
  | recipeOpen {p slot n rpm feed limit} (k : Fin 4) (r : Recipe) (unused : s.recipeInUse k = false) :
      Changes s (.recipeOpen p slot n rpm feed limit) (s.setRecipe k (.opened r))
  | recipeBoard {p slot b rank height x y n} (k : Fin 4) (r r' : Recipe) (opened : s.recipes[k] = .opened r) :
      Changes s (.recipeBoard p slot b rank height x y n) (s.setRecipe k (.opened r'))
  | recipeTab {p slot b t role x y heading len} (k : Fin 4) (r r' : Recipe) (opened : s.recipes[k] = .opened r) :
      Changes s (.recipeTab p slot b t role x y heading len) (s.setRecipe k (.opened r'))
  | recipeClose {p slot} (k : Fin 4) (r r' : Recipe) (opened : s.recipes[k] = .opened r) :
      Changes s (.recipeClose p slot) (s.setRecipe k (.valid r'))
  | recipeErase {p slot} (k : Fin 4) (unused : s.recipeInUse k = false) :
      Changes s (.recipeErase p slot) (s.setRecipe k .empty)
  | panelStart {p fixture slot serial xouts} (n : Fin 4) (f : Fixture) (k : Fin 4) (id : Nat) (r : Recipe)
      (boards : List Board) (noFixture : s.recordOnFixture f = none) (noSerial : s.recordOfSerial id = none)
      (valid : s.recipes[k] = .valid r) :
      Changes s (.panelStart p fixture slot serial xouts) (s.startPanel n f k id boards)
  | panelAbort {p sel} (k : Fin 4) (panel : Panel) : Changes s (.panelAbort p sel) (s.abortPanel k panel)
  | panelResult {p serial} (k : Fin 4) : Changes s (.panelResult p serial) (s.freeRecord k)
  | resolveTabUncut {p sel b t} (l : Located) :
      Changes s (.resolveTabUncut p sel b t) (s.setTab l.record l.index t.toNat .uncut)
  | resolveTabCut {p sel b t} (l : Located) : Changes s (.resolveTabCut p sel b t) (s.cutTab l t.toNat)
  | divert {p sel b} (l : Located) : Changes s (.divert p sel b) (s.divertBoard l)
  | bitChange {p serial wear} (fresh : wear.toNat < s.bit.record.params.endOfLife) :
      Changes s (.bitChange p serial wear) (s.mountBit serial.toNat wear.toNat)
  | bitSetup {p n span z0 d wd weol fmin} (params : BitParams) (sound : s.bit.worn = false)
      (usable : s.bit.record.wear < params.endOfLife) :
      Changes s (.bitSetup p n span z0 d wd weol fmin) (s.setupBit params)
  | spindleReset {p} (faulted : s.spindle.state = .faulted) : Changes s (.spindleReset p) s.resetSpindle
  | resolvePresent {p slot finding} (l : Located) : Changes s (.resolveSlot p slot finding) (s.stow l slot.toNat)
  | resolveAbsent {p slot finding} (l : Located) : Changes s (.resolveSlot p slot finding) (s.resolveAbsent l slot.toNat)
  | manifestRelease {p} :
      Changes s (.manifestRelease p) { s with magazine := { s.magazine with closed := none } }
  | binEmptied {p} : Changes s (.binEmptied p) s.emptyBin
  | registerRepair {p tag} :
      Changes s (.registerRepair p tag) (s.modifyEntry tag.toNat fun e => { e with retired := [], condemned := false })
  | cellStart {p} (sound : s.spindle.state ≠ .faulted) : Changes s (.cellStart p) s.goToWork
  | cellResume {p} (sound : s.spindle.state ≠ .faulted) : Changes s (.cellResume p) s.goToWork
  | cellPark {p} : Changes s (.cellPark p) s.enterPark
  | cellStop {p} : Changes s (.cellStop p) s.enterStandby
  | faultResponse {p kind enable action latch} (k : FaultKind) (on : Bool) (act : FaultAction) (keep : Bool) :
      Changes s (.faultResponse p kind enable action latch) (s.setResponse k on act keep)
  | faultClear {p kind} (k : FaultKind) : Changes s (.faultClear p kind) (s.clearLatch k)
  | setLimits {p hang speed feed bin} (limit speedNow feedNow : Nat) :
      Changes s (.setLimits p hang speed feed bin) (s.putLimits limit speedNow feedNow bin.toNat)
  | constantsWrite {p f} (c : Constants) (idle : s.cell.state = .standby ∨ s.cell.state = .unconfigured)
      (replaced : s.constants.replace f = some c) : Changes s (.constantsWrite p f) (s.putConstants c)
  | storeSave {p k} (r : RecordId) : Changes s (.storeSave p k) (s.setPending r true)
  | nextCut {p} (c : Choice) (g : Grant) (atSpeed : s.spindle.state = .atSpeed)
      (room : s.scheduler.window.length < 2) : Changes s (.nextCut p) (s.issue c g)
  | cutDone {p tag} (g : Grant) : Changes s (.cutDone p tag) (s.cutDone g)
  | cutAbort {p tag len} (g : Grant) (n : Nat) : Changes s (.cutAbort p tag len) (s.cutAbort g n)
  | claimNext {p} (l : Located) : Changes s (.claimNext p) (s.claimBoard l)
  | claim {p serial b} (l : Located) : Changes s (.claim p serial b) (s.claimBoard l)
  | gripped {p serial b} (l : Located) : Changes s (.gripped p serial b) (s.moveBoard l.record l.index .held)
  | release {p serial b} (l : Located) : Changes s (.release p serial b) (s.releaseBoard l)
  | bindToBin {p serial b} (l : Located) : Changes s (.destination p serial b) (s.bindBoard l .reject)
  | binFull {p serial b} : Changes s (.destination p serial b) (s.setWait (some .binFull))
  | bindToSlot {p serial b} (l : Located) (k : Nat) :
      Changes s (.destination p serial b)
        ((s.modifySession fun m => m.setRun k l.board.height (.reserved l.id)).bindBoard l (.slot k))
  | noRoom {p serial b} (h : Nat) : Changes s (.destination p serial b) ((s.noRun h).setWait (some .noRoom))
  | rejectPlaced {p serial b} (l : Located) : Changes s (.rejectPlaced p serial b) (s.rejectPlaced l)
  | insertBegin {p serial b} (l : Located) (k : Nat) (noMove : s.insertion.permission = false) :
      Changes s (.insertBegin p serial b) (s.openInsertion l k)
  | insertEndAborted {p serial b} (l : Located) (k : Nat) : Changes s (.insertEndAborted p serial b) (s.drawBack l k)
  | insertEndSeated {p serial b} (l : Located) (k : Nat) : Changes s (.insertEndSeated p serial b) (s.letGo l k)
  | magLoaded {p tag type} (t : MagType) :
      Changes s (.magLoaded p tag type) (s.loadMagazine tag.toNat type.toNat t)
  | magUnload {p} (m : Session) : Changes s (.magUnload p) (s.unloadMagazine m)
  | homeBegin {p} : Changes s (.homeBegin p) s.armHoming
  | moveBegin {p} (noInsertion : s.insertion.insertion = none) : Changes s (.moveBegin p) s.beginMove
  | arrived {p} : Changes s (.arrived p) s.endMove
  | confirmed {p} (k : Nat) : Changes s (.arrived p) (s.endMove.confirm k)
  | tachEdge {cycles} : Changes s (.tachEdge cycles) (s.tachEdge cycles.toNat)
  | stallMeasurement : Changes s .stallMeasurement (s.completeStall 0)
  | controlPeriod : Changes s .controlPeriod s.controlPeriod
  | kickTimeout : Changes s .kickTimeout (s.enterFaulted .kickTimeout)
  | settle : Changes s .settle (s.enterFaulted .settle)
  | grantExpiry (g : Grant) : Changes s .grantExpiry (s.expire g)
  | parkTimer : Changes s .parkTimer s.enterPark
  | seatSettleTimeout : Changes s .seatSettleTimeout (s.endWait fun t l _ => t.doubt l)
  | encoderIllegal {a b} : Changes s (.encoderTransition a b) (s.illegal a b)
  | encoderTransition {a b} : Changes s (.encoderTransition a b) (s.countTransition a b)
  | illegalTransition {a b} : Changes s .illegalTransition (s.illegal a b)
  | referenceLevel : Changes s .referenceEdge { s with lines := { s.lines with reference := true } }
  | referenceEdge : Changes s .referenceEdge (State.completeHoming { s with lines := { s.lines with reference := true } })
  | seatSensorEdge : Changes s .seatSensorEdge (State.seatEdge { s with lines := { s.lines with seat := true } })
  | guardOpens : Changes s .guardOpens s.openGuard
  | guardCloses : Changes s .guardCloses { s with lines := { s.lines with guard := true } }
  | storeWriteEnd {ok} (w : StoreWrite) : Changes s (.storeWriteEnd ok) (s.endWrite w ok)

/-! ### The ways a command ends -/

/-- The states that a command can leave: the part as it was, one port's own fields changed, the end of a change with or
without an answer, or a reset. -/
inductive Ends (s : State) (i : Instr) : State → Prop
  | unchanged : Ends s i s
  | port (p : Port) (v : PortState) (own : i.portOf = some p)
      (events : v.events = (s.port p).events
        ∨ i = .takeEvent p ∧ ∃ gone : Byte, v.events = (s.port p).events &&& gone)
      (enabled : v.enabled = (s.port p).enabled
        ∨ v.enabled &&& ~~~(allKinds p) = 0 ∧ ∃ mask, i = .setAttention p mask) :
      Ends s i (s.modifyPort p fun _ => v)
  | request (p : Port) (code : Byte) (r : Reply) (u : State) (own : i.portOf = some p) (up : s.starting = false)
      (change : Changes s i u) : Ends s i ((commit s u).answer p code r)
  | event (u : State) (up : s.starting = false) (change : Changes s i u) : Ends s i (commit s u)
  | hardReset (which : i = .powerOn ∨ i = .pinReset) : Ends s i s.beginReset
  | completed (lines : Lines) (which : i = .startUpReadEnd lines) (down : s.starting = true) :
      Ends s i (s.completeReset lines)
  | softReset (p : Port) (code : Byte) (r : Reply) (which : i = .cellReset p) (free : s.store.writing = none) :
      Ends s i (s.softReset.answer p code r)

/-- A handler's outcome: the part as it was, or the end of one of the command's changes. -/
def Handled (s : State) (i : Instr) (x : State × Reply) : Prop := x.1 = s ∨ ∃ u, x.1 = commit s u ∧ Changes s i u

theorem Handled.refuse {s : State} {i : Instr} (r : RefusedReason) : Handled s i (refuse s r) := .inl rfl

theorem Handled.waitFor {s : State} {i : Instr} (r : WaitReason) : Handled s i (waitFor s r) := .inl rfl

theorem Handled.respond {s : State} {i : Instr} (body : List Byte) : Handled s i (respond s body) := .inl rfl

theorem Handled.conclude {s u : State} {i : Instr} {v : Verdict} {body : State → List Byte} (change : Changes s i u) :
    Handled s i (conclude s u v body) := .inr ⟨u, rfl, change⟩

theorem Handled.accept {s u : State} {i : Instr} {body : State → List Byte} (change : Changes s i u) :
    Handled s i (accept s u body) := .conclude change

theorem Ends.answer {s : State} {i : Instr} (p : Port) (code : Byte) (r : Reply) (own : i.portOf = some p) :
    Ends s i (s.answer p code r) :=
  .port p { s.port p with answer := some { echo := code, verdict := r.verdict, body := r.body }, line := .idle } own
    (.inl rfl) (.inl rfl)

/-- A transaction that was ignored only ends the wait for select to rise. -/
theorem Ends.ignored {s : State} {i : Instr} (p : Port) (own : i.portOf = some p) :
    Ends s i (s.modifyPort p fun v => { v with line := .idle }) :=
  .port p { s.port p with line := .idle } own (.inl rfl) (.inl rfl)

/-- A request ends with the outcome of its handler, or is turned away at its port. -/
theorem Ends.of_request {s : State} {i : Instr} {p : Port} {code : Byte} {handle : Handler} (own : i.portOf = some p)
    (handled : s.starting = false → Handled s i (handle s)) : Ends s i (s.request p code handle) := by
  by_cases line : (s.port p).line = .ignored
  · rw [State.request_ignored s p code handle line]
    exact .ignored p own
  · cases mine : allowed code p with
    | false =>
        rw [State.request_wrongPort s p code handle line mine]
        exact .answer p code _ own
    | true =>
        cases up : s.starting with
        | true =>
            rw [State.request_starting s p code handle line mine up]
            exact .answer p code _ own
        | false =>
            rw [State.request_open s p code handle line mine up]
            rcases handled up with same | ⟨u, ends, change⟩
            · rw [same]; exact .answer p code _ own
            · rw [ends]; exact .request p code _ u own up change

theorem State.answer_modifyPort (s : State) (p : Port) (f : PortState → PortState) (code : Byte) (r : Reply) :
    (s.modifyPort p f).answer p code r = s.modifyPort p fun v =>
      { f v with answer := some { echo := code, verdict := r.verdict, body := r.body }, line := .idle } := by
  cases p <;> rfl

/-- A request whose handler changes its own port's fields alone. -/
theorem Ends.of_portRequest {s : State} {i : Instr} {p : Port} {code : Byte} {handle : Handler}
    {f : PortState → PortState} (own : i.portOf = some p) (handled : (handle s).1 = s.modifyPort p f)
    (events : (f (s.port p)).events = (s.port p).events
      ∨ i = .takeEvent p ∧ ∃ gone : Byte, (f (s.port p)).events = (s.port p).events &&& gone)
    (enabled : (f (s.port p)).enabled = (s.port p).enabled
      ∨ (f (s.port p)).enabled &&& ~~~(allKinds p) = 0 ∧ ∃ mask, i = .setAttention p mask) :
    Ends s i (s.request p code handle) := by
  unfold State.request
  split
  · exact .ignored p own
  · split
    · exact .answer p code _ own
    · split
      · exact .answer p code _ own
      · dsimp only
        rw [handled, State.answer_modifyPort]
        exact .port p _ own events enabled

/-- An event ends with its change, and has no effect during the start-up read. -/
theorem Ends.of_event {s : State} {i : Instr} {f : State → State} (change : Changes s i (f s)) :
    Ends s i (s.event f) := by
  cases up : s.starting with
  | true => rw [State.event_starting s f up]; exact .unchanged
  | false => rw [State.event_up s f up]; exact .event _ up change

theorem Ends.of_badFrame {s : State} {i : Instr} {p : Port} (code : Byte) (judged : RefusedReason)
    (portFits afterStarting : Bool) (own : i.portOf = some p) :
    Ends s i (s.endBadFrame p code judged portFits afterStarting) := by
  unfold State.endBadFrame
  split
  · exact .ignored p own
  · split
    · exact .answer p code _ own
    · split <;> exact .answer p code _ own

end Sys2Proof.Machine

namespace Sys2Proof.Machine

open Sys2Proof

/-! ### The requests of the cell port -/

theorem Handled.editItem {s : State} {i : Instr} (slot board : Nat) (f : BoardItem → BoardItem)
    (change : ∀ (k : Fin 4) (r r' : Recipe), s.recipes[k] = .opened r → Changes s i (s.setRecipe k (.opened r'))) :
    Handled s i (s.editItem slot board f) := by
  unfold State.editItem
  split
  · exact .refuse _
  · split
    next opened =>
      split
      · exact .refuse _
      · exact .accept (change _ _ _ opened)
    · exact .refuse _
    · exact .refuse _

theorem Handled.editTab {s : State} {i : Instr} (slot board tab : Nat) (d : TabDef)
    (change : ∀ (k : Fin 4) (r r' : Recipe), s.recipes[k] = .opened r → Changes s i (s.setRecipe k (.opened r'))) :
    Handled s i (s.editTab slot board tab d) := by
  unfold State.editTab
  split
  · exact .refuse _
  · split
    · split
      · exact .refuse _
      · exact .editItem _ _ _ change
    · exact .refuse _
    · exact .refuse _

theorem Handled.panelStart {s : State} {p : Port} {fixture slot : Byte} {serial : Word32} {xouts : List Byte}
    (f : Fixture) (k : Fin 4) (id : Nat) (out : List Nat) :
    Handled s (.panelStart p fixture slot serial xouts) (s.panelStart f k id out) := by
  unfold State.panelStart
  split
  · exact .refuse _
  split
  · exact .refuse _
  next fixtureFree =>
  split
  · exact .refuse _
  next serialFree =>
  split
  · exact .refuse _
  · exact .refuse _
  next r valid =>
  split
  · exact .refuse _
  split
  · exact .refuse _
  dsimp only
  split
  · exact .refuse _
  · exact .accept (.panelStart _ f k id r _ (Option.not_isSome_iff_eq_none.mp fixtureFree)
      (Option.not_isSome_iff_eq_none.mp serialFree) valid)

theorem Handled.suspectTab {s : State} {i : Instr} (sel : Selector) (board tab : Nat) {rest : Located → State × Reply}
    (change : ∀ l, Handled s i (rest l)) : Handled s i (s.suspectTab sel board tab rest) := by
  unfold State.suspectTab
  split
  · exact .refuse _
  · split
    · exact .refuse _
    · split
      · exact change _
      · exact .refuse _

theorem Handled.tryWork {s : State} {i : Instr} (change : s.spindle.state ≠ .faulted → Changes s i s.goToWork) :
    Handled s i s.tryWork := by
  unfold State.tryWork
  split
  · exact .refuse _
  · split
    · exact .refuse _
    next sound => exact .accept (change sound)

/-! ### The requests of the router and pick ports -/

theorem Handled.reported {s : State} {i : Instr} (tag : Nat) {rest : Grant → State × Reply}
    (change : ∀ g, Handled s i (rest g)) : Handled s i (s.reported tag rest) := by
  unfold State.reported
  split
  · exact .refuse _
  · split
    · exact change _
    · split <;> exact .refuse _

theorem Handled.onClaim {s : State} {i : Instr} (serial : Word32) (b : Byte) {rest : Located → State × Reply}
    (change : ∀ l, Handled s i (rest l)) : Handled s i (s.onClaim serial b rest) := by
  unfold State.onClaim
  split
  · exact .refuse _
  · split
    · exact change _
    · exact .refuse _

theorem Handled.bindToBin {s : State} {p : Port} {serial : Word32} {b : Byte} (l : Located) :
    Handled s (.destination p serial b) (s.bindToBin l) := by
  unfold State.bindToBin
  split
  · exact .accept (.bindToBin l)
  · exact .conclude .binFull

theorem Handled.bindToSlot {s : State} {p : Port} {serial : Word32} {b : Byte} (l : Located) :
    Handled s (.destination p serial b) (s.bindToSlot l) := by
  unfold State.bindToSlot
  split
  · exact .accept (.bindToSlot l _)
  · exact .conclude (.noRoom _)

theorem Handled.judgeArrival {s : State} {p : Port} : Handled s (.arrived p) (s.judgeArrival s.endMove) := by
  unfold State.judgeArrival
  split
  · dsimp only
    split
    · exact .conclude .arrived
    · split
      · exact .conclude .arrived
      · exact .accept (.confirmed _)
  · exact .conclude .arrived
  · exact .conclude .arrived

/-! ### Every command -/

/-- A request of the cell port on recipes and panels, or on a tab, ends in one of the ways listed. -/
theorem exec_ends_recipesAndPanels {i : Instr} {s t : State} (runs : exec i s = .next t)
    (which : i.request.any fun x => decide (16 ≤ x.2.1.toNat ∧ x.2.1.toNat ≤ 26)) : Ends s i t := by
  cases i with
  | recipeOpen p slot n rpm feed limit =>
      cases runs
      refine .of_request rfl fun _ => ?_
      split
      · exact .refuse _
      · dsimp only
        split
        · exact .refuse _
        split
        · exact .refuse _
        next free => exact .accept (.recipeOpen _ _ (Bool.eq_false_iff.mpr free))
  | recipeBoard p slot b rank height x y n =>
      cases runs
      exact .of_request rfl fun _ => .editItem _ _ _ .recipeBoard
  | recipeTab p slot b t role x y heading len =>
      cases runs
      exact .of_request rfl fun _ => .editTab _ _ _ _ .recipeTab
  | recipeClose p slot =>
      cases runs
      refine .of_request rfl fun _ => ?_
      split
      · exact .refuse _
      · split
        next opened =>
          split
          · exact .inl rfl
          · exact .accept (.recipeClose _ _ _ opened)
        · exact .refuse _
        · exact .refuse _
  | recipeErase p slot =>
      cases runs
      refine .of_request rfl fun _ => ?_
      split
      · exact .refuse _
      · split
        · exact .refuse _
        next free => exact .accept (.recipeErase _ (Bool.eq_false_iff.mpr free))
  | recipeRead p slot b t =>
      cases runs
      refine .of_request rfl fun _ => ?_
      split
      · exact .refuse _
      · split
        · exact .refuse _
        · exact .respond _
  | panelStart p fixture slot serial xouts =>
      simp only [exec, execPanelStart] at runs
      split at runs
      · cases runs
        exact .of_badFrame _ _ _ _ rfl
      · cases runs
        refine .of_request rfl fun _ => ?_
        split
        · exact .panelStart _ _ _ _
        · exact .refuse _
        · exact .refuse _
  | panelAbort p sel =>
      cases runs
      refine .of_request rfl fun _ => ?_
      split
      · exact .refuse _
      · split
        · exact .refuse _
        · split
          · exact .accept (.panelAbort _ _)
          · exact .refuse _
  | panelResult p serial =>
      cases runs
      refine .of_request rfl fun _ => ?_
      split
      · exact .refuse _
      · split
        · exact .refuse _
        · exact .accept (.panelResult _)
  | resolveTabUncut p sel b t =>
      cases runs
      exact .of_request rfl fun _ => .suspectTab _ _ _ fun l => .accept (.resolveTabUncut l)
  | resolveTabCut p sel b t =>
      cases runs
      exact .of_request rfl fun _ => .suspectTab _ _ _ fun l => .accept (.resolveTabCut l)
  | divert p sel b =>
      cases runs
      refine .of_request rfl fun _ => ?_
      split
      · exact .refuse _
      · split
        · exact .refuse _
        · split
          · exact .respond _
          · exact .accept (.divert _)
  | _ => simp [Instr.request] at which

/-- A request that any port may send ends in one of the ways listed. -/
theorem exec_ends_shared {i : Instr} {s t : State} (runs : exec i s = .next t)
    (which : i.request.any fun x => decide (x.2.1.toNat ≤ 14)) : Ends s i t := by
  cases i with
  | noop p | windowRead p | pickRead p | bitRead p | spindleRead p | insertRead p =>
      cases runs
      exact .of_request rfl fun _ => .respond _
  | takeEvent p =>
      cases runs
      cases first : firstPending p (s.port p).events with
      | some k =>
          exact .of_portRequest (f := fun v => { v with events := (s.port p).events &&& ~~~(1#8 <<< k) }) rfl
            (by simp only [first]; rfl) (.inr ⟨rfl, _, rfl⟩) (.inl rfl)
      | none =>
          exact .of_portRequest (f := fun v => { v with events := (s.port p).events }) rfl
            (by simp only [first]; rfl) (.inl rfl) (.inl rfl)
  | setAttention p mask =>
      cases runs
      by_cases outside : mask &&& ~~~(allKinds p) = 0
      · exact .of_portRequest (f := fun v => { v with enabled := mask }) rfl (by simp [outside, respond]) (.inl rfl)
          (.inr ⟨outside, mask, rfl⟩)
      · refine .of_request rfl fun _ => ?_
        rw [if_pos (by simpa using outside)]
        exact .refuse _
  | holdSet p =>
      cases runs
      exact .of_request rfl fun _ => .accept .holdSet
  | holdClear p =>
      cases runs
      exact .of_request rfl fun _ => .accept .holdClear
  | panelRead p r | boardRead p sel b =>
      cases runs
      refine .of_request rfl fun _ => ?_
      split
      · exact .refuse _
      · exact .respond _
  | magazineRead p part k =>
      cases runs
      refine .of_request rfl fun _ => ?_
      split
      · exact .refuse _
      split
      · exact .respond _
      split
      · exact .refuse _
      split
      · exact .refuse _
      · exact .respond _
  | registerRead p k =>
      cases runs
      refine .of_request rfl fun _ => ?_
      dsimp only
      split
      · exact .respond _
      split
      · exact .refuse _
      · exact .respond _
  | encoderRead p k =>
      cases runs
      refine .of_request rfl fun _ => ?_
      split
      · exact .respond _
      split
      · exact .refuse _
      split
      · exact .refuse _
      · exact .respond _
  | _ => simp [Instr.request] at which

/-- A request of the cell port on the bit, the spindle, the magazine map, cell control and the store ends in one of the
ways listed. -/
theorem exec_ends_cellPort {i : Instr} {s t : State} (runs : exec i s = .next t)
    (which : i.request.any fun x => decide (27 ≤ x.2.1.toNat ∧ x.2.1.toNat ≤ 45)) : Ends s i t := by
  cases i with
  | bitChange p serial wear =>
      cases runs
      refine .of_request rfl fun _ => ?_
      split
      · exact .refuse _
      next fresh =>
      split
      · exact .refuse _
      · exact .accept (.bitChange (Nat.lt_of_not_le fresh))
  | bitSetup p n span z0 d wd weol fmin =>
      cases runs
      refine .of_request rfl fun _ => ?_
      dsimp only
      split
      · exact .refuse _
      split
      · exact .refuse _
      next access =>
      split
      · exact .refuse _
      next usable =>
      exact .accept (.bitSetup _ (by simp_all) (Nat.lt_of_not_le usable))
  | spindleReset p =>
      cases runs
      refine .of_request rfl fun _ => ?_
      split
      next faulted => exact .accept (.spindleReset faulted)
      · exact .refuse _
  | resolveSlot p slot finding =>
      cases runs
      refine .of_request rfl fun _ => ?_
      split
      · exact .refuse _
      split
      · exact .refuse _
      split
      · exact .refuse _
      split
      · exact .refuse _
      split
      · exact .accept (.resolvePresent _)
      · exact .accept (.resolveAbsent _)
  | manifestRead p k =>
      cases runs
      refine .of_request rfl fun _ => ?_
      split
      · exact .refuse _
      split
      · exact .respond _
      split
      · exact .refuse _
      · exact .respond _
  | manifestRelease p =>
      cases runs
      refine .of_request rfl fun _ => ?_
      split
      · exact .refuse _
      · exact .accept .manifestRelease
  | binEmptied p =>
      cases runs
      exact .of_request rfl fun _ => .accept .binEmptied
  | registerRepair p tag =>
      cases runs
      refine .of_request rfl fun _ => ?_
      split
      · exact .refuse _
      split
      · exact .refuse _
      · exact .accept .registerRepair
  | cellStart p =>
      cases runs
      refine .of_request rfl fun _ => ?_
      split
      · exact .tryWork .cellStart
      · exact .refuse _
  | cellResume p =>
      cases runs
      refine .of_request rfl fun _ => ?_
      split
      · exact .tryWork .cellResume
      · exact .refuse _
  | cellPark p =>
      cases runs
      refine .of_request rfl fun _ => ?_
      split
      · exact .accept .cellPark
      · exact .accept .cellPark
      · exact .respond _
      · exact .refuse _
      · exact .refuse _
  | cellStop p =>
      cases runs
      refine .of_request rfl fun _ => ?_
      split
      · exact .accept .cellStop
      · exact .accept .cellStop
      · exact .accept .cellStop
      · exact .respond _
      · exact .refuse _
  | faultResponse p kind enable action latch =>
      cases runs
      refine .of_request rfl fun _ => ?_
      split
      · split
        · exact .refuse _
        · exact .accept (.faultResponse _ _ _ _)
      · exact .refuse _
      · exact .refuse _
  | faultClear p kind =>
      cases runs
      refine .of_request rfl fun _ => ?_
      split
      · exact .refuse _
      · exact .accept (.faultClear _)
  | setLimits p hang speed feed bin =>
      cases runs
      refine .of_request rfl fun _ => ?_
      dsimp only
      split
      · exact .refuse _
      split
      · exact .refuse _
      split
      · exact .refuse _
      split
      · exact .refuse _
      · exact .accept (.setLimits _ _ _)
  | statusRead p kind =>
      cases runs
      refine .of_request rfl fun _ => ?_
      split
      · exact .respond _
      split
      · exact .refuse _
      · exact .respond _
  | constantsWrite p f =>
      cases runs
      refine .of_request rfl fun _ => ?_
      split
      · exact .refuse _
      split
      · exact .refuse _
      next idle =>
      split
      · exact .refuse _
      next replaced => exact .accept (.constantsWrite _ (by tauto) replaced)
  | storeSave p k =>
      cases runs
      refine .of_request rfl fun _ => ?_
      split
      · exact .respond _
      split
      · exact .refuse _
      split
      · exact .inl rfl
      · exact .accept (.storeSave _)
  | cellReset p =>
      cases runs
      cases writing : s.store.writing with
      | some w =>
          refine .of_request rfl fun _ => ?_
          rw [writing]
          exact .refuse _
      | none =>
          unfold State.request
          split
          · exact .ignored p rfl
          split
          · exact .answer p _ _ rfl
          split
          · exact .answer p _ _ rfl
          · simp only [writing]
            exact .softReset p _ _ rfl writing
  | _ => simp [Instr.request] at which

/-- A request of the router, pick or magazine port ends in one of the ways listed. -/
theorem exec_ends_otherPorts {i : Instr} {s t : State} (runs : exec i s = .next t)
    (which : i.request.any fun x => decide (48 ≤ x.2.1.toNat)) : Ends s i t := by
  cases i with
  | nextCut p =>
      cases runs
      refine .of_request rfl fun _ => ?_
      split
      · exact .waitFor _
      split
      · exact .waitFor _
      next atSpeed =>
      split
      · exact .waitFor _
      split
      · exact .waitFor _
      next room =>
      split
      · exact .waitFor _
      split
      · exact .accept (.nextCut _ _ (not_not.mp atSpeed) (Nat.lt_of_not_le room))
      · exact .waitFor _
  | cutDone p tag =>
      cases runs
      exact .of_request rfl fun _ => .reported _ fun g => .accept (.cutDone g)
  | cutAbort p tag len =>
      cases runs
      exact .of_request rfl fun _ => .reported _ fun g => .accept (.cutAbort g _)
  | claimNext p =>
      cases runs
      refine .of_request rfl fun _ => ?_
      split
      · exact .refuse _
      split
      · exact .waitFor _
      · exact .accept (.claimNext _)
  | claim p serial b =>
      cases runs
      refine .of_request rfl fun _ => ?_
      split
      · exact .refuse _
      split
      · exact .refuse _
      split
      · exact .refuse _
      · exact .accept (.claim _)
  | gripped p serial b =>
      cases runs
      refine .of_request rfl fun _ => .onClaim _ _ fun l => ?_
      split
      · exact .accept (.gripped l)
      · exact .refuse _
  | release p serial b =>
      cases runs
      refine .of_request rfl fun _ => .onClaim _ _ fun l => ?_
      split
      · exact .accept (.release l)
      · exact .refuse _
  | destination p serial b =>
      cases runs
      refine .of_request rfl fun _ => .onClaim _ _ fun l => ?_
      split
      · split
        · exact .bindToBin l
        · exact .bindToSlot l
      · exact .respond _
      · exact .refuse _
  | rejectPlaced p serial b =>
      cases runs
      refine .of_request rfl fun _ => .onClaim _ _ fun l => ?_
      split
      · exact .accept (.rejectPlaced l)
      · exact .refuse _
  | insertBegin p serial b =>
      cases runs
      refine .of_request rfl fun _ => .onClaim _ _ fun l => ?_
      split
      · split
        · exact .refuse _
        next noMove =>
        split
        · exact .refuse _
        split
        · exact .refuse _
        · exact .accept (.insertBegin l _ (Bool.eq_false_iff.mpr noMove))
      · exact .refuse _
  | insertEndAborted p serial b =>
      cases runs
      refine .of_request rfl fun _ => .onClaim _ _ fun l => ?_
      split
      · exact .accept (.insertEndAborted l _)
      · exact .refuse _
  | insertEndSeated p serial b =>
      cases runs
      refine .of_request rfl fun _ => .onClaim _ _ fun l => ?_
      split
      · exact .accept (.insertEndSeated l _)
      · exact .refuse _
  | magLoaded p tag type =>
      cases runs
      refine .of_request rfl fun _ => ?_
      split
      · exact .refuse _
      split
      · exact .refuse _
      split
      · exact .refuse _
      · exact .accept (.magLoaded _)
  | magUnload p =>
      cases runs
      refine .of_request rfl fun _ => ?_
      split
      · exact .refuse _
      split
      · exact .refuse _
      · exact .accept (.magUnload _)
  | homeBegin p =>
      cases runs
      refine .of_request rfl fun _ => ?_
      split
      · exact .refuse _
      split
      · exact .respond _
      · exact .accept .homeBegin
  | moveBegin p =>
      cases runs
      refine .of_request rfl fun _ => ?_
      split
      · exact .refuse _
      next noInsertion => exact .accept (.moveBegin (Option.not_isSome_iff_eq_none.mp noInsertion))
  | arrived p =>
      cases runs
      refine .of_request rfl fun _ => ?_
      split
      · exact .refuse _
      · exact .judgeArrival
  | nextPosition p =>
      cases runs
      refine .of_request rfl fun _ => ?_
      split
      · exact .respond _
      · exact .waitFor _
      · exact .waitFor _
  | _ => simp [Instr.request] at which

/-- What is no request, be it select, bytes of no request, a line, a timer, the store or a reset, ends in one of the ways
listed. -/
theorem exec_ends_events {i : Instr} {s t : State} (runs : exec i s = .next t) (which : i.request = none) :
    Ends s i t := by
  cases i with
  | selectFalls p =>
      simp only [exec, execSelectFalls] at runs
      split at runs <;> cases runs
      · exact .unchanged
      · exact .port p { s.port p with answer := none, line := .transaction (s.port p).load } rfl (.inl rfl) (.inl rfl)
      · exact .port p { s.port p with answer := none, line := .transaction (s.port p).load } rfl (.inl rfl) (.inl rfl)
  | badLength p bytes =>
      simp only [exec, execBadLength] at runs
      split at runs <;> cases runs
      all_goals exact .of_badFrame _ _ _ _ rfl
  | unknownRequest p code =>
      simp only [exec, execUnknownRequest] at runs
      split at runs <;> cases runs
      exact .of_badFrame _ _ _ _ rfl
  | tachEdge cycles => cases runs; exact .of_event .tachEdge
  | controlPeriod => cases runs; exact .of_event .controlPeriod
  | stallMeasurement =>
      cases runs
      refine .of_event ?_
      split
      · exact .stallMeasurement
      · exact .idle rfl
  | kickTimeout =>
      cases runs
      refine .of_event ?_
      split
      · exact .kickTimeout
      · exact .idle rfl
  | settle =>
      cases runs
      refine .of_event ?_
      split
      · exact .settle
      · exact .idle rfl
  | grantExpiry =>
      cases runs
      refine .of_event ?_
      split
      · exact .grantExpiry _
      · exact .idle rfl
      · exact .idle rfl
  | parkTimer =>
      cases runs
      refine .of_event ?_
      split
      · exact .parkTimer
      · exact .idle rfl
  | seatSettleTimeout => cases runs; exact .of_event .seatSettleTimeout
  | encoderTransition a b =>
      cases runs
      refine .of_event ?_
      split
      · exact .idle rfl
      · split
        · exact .encoderIllegal
        · exact .encoderTransition
  | illegalTransition => cases runs; exact .of_event .illegalTransition
  | referenceEdge =>
      cases runs
      refine .of_event ?_
      dsimp only
      split
      · exact .referenceEdge
      · exact .referenceLevel
  | seatSensorEdge => cases runs; exact .of_event .seatSensorEdge
  | guardOpens =>
      cases runs
      refine .of_event ?_
      split
      · exact .guardOpens
      · exact .idle rfl
  | guardCloses => cases runs; exact .of_event .guardCloses
  | storeWriteEnd ok =>
      cases runs
      refine .of_event ?_
      split
      · exact .storeWriteEnd _
      · exact .idle rfl
  | powerOn => cases runs; exact .hardReset (.inl rfl)
  | pinReset => cases runs; exact .hardReset (.inr rfl)
  | startUpReadEnd lines =>
      simp only [exec, execStartUpReadEnd, Host.Outcome.next.injEq] at runs
      subst runs
      split
      next down => exact .completed lines rfl down
      · exact .unchanged
  | _ => simp [Instr.request] at which

/-- Every command that has a next state ends in one of the ways listed. -/
theorem exec_ends {i : Instr} {s t : State} (runs : exec i s = .next t) : Ends s i t := by
  cases request : i.request with
  | none => exact exec_ends_events runs request
  | some x =>
      have codes : x.2.1.toNat ≤ 14 ∨ 16 ≤ x.2.1.toNat ∧ x.2.1.toNat ≤ 26 ∨ 27 ≤ x.2.1.toNat ∧ x.2.1.toNat ≤ 45
          ∨ 48 ≤ x.2.1.toNat := by
        cases i <;> cases request <;> simp
      rcases codes with shared | recipes | cell | other
      · exact exec_ends_shared runs (by simpa [request] using shared)
      · exact exec_ends_recipesAndPanels runs (by simpa [request] using recipes)
      · exact exec_ends_cellPort runs (by simpa [request] using cell)
      · exact exec_ends_otherPorts runs (by simpa [request] using other)

/-- A step is one cycle of the time base on an empty queue, or the execution of the front command on the rest. -/
theorem step_cases {s t : State} (steps : step s = .next t) :
    t = s.tick ∨ ∃ i rest, Ends { s with pending := rest } i t := by
  unfold step at steps
  split at steps
  · cases steps
    exact .inl rfl
  next i rest _ => exact .inr ⟨i, rest, exec_ends steps⟩

end Sys2Proof.Machine

/-! What every command does to the ports (R161, R164 to R166): a rule posts kinds to event sets and touches nothing else
of a port. From it O7 and the relation PortsSafe of O60. -/

namespace Sys2Proof.Machine

open Sys2Proof

/-! ### A measurement that completes (R85 to R88) -/

/-- What a loop step can do: nothing while the loop does not measure; otherwise the loop takes new fields with the
reference and the commanded rpm kept and the duty in range, and goes on turning or faults. -/
theorem State.completeMeasurement_cases (s : State) (count : Nat) (stall : Bool) :
    s.completeMeasurement count stall = s
      ∨ ∃ sp : Spindle, (s.completeMeasurement count stall = { s with spindle := sp } ∧ sp.state.turning = true
          ∨ s.completeMeasurement count stall = { s with spindle := sp }.enterFaulted .strain)
        ∧ s.spindle.state.turning = true ∧ (s.spindle.duty ≤ 1023 → sp.duty ≤ 1023)
        ∧ sp.recipeRpm = s.spindle.recipeRpm ∧ sp.override = s.spindle.override
        ∧ sp.reference = s.spindle.reference ∧ sp.measurement = s.spindle.measurement := by
  have duty (w c : Nat) (e : Int) (low : s.spindle.duty ≤ 1023) : loopStep s.spindle.duty w c e ≤ 1023 := by
    unfold loopStep
    dsimp only
    split
    · exact min_le_left _ _
    · split <;> omega
  cases state : s.spindle.state with
  | ramping =>
      right
      simp only [State.completeMeasurement, state]
      generalize (if stall = true ∨ s.spindle.duty = 1023 ∧ (s.window : Int) < (count : Int) - (s.target : Int)
        then s.spindle.strain + 1 else 0) = strain
      split
      · exact ⟨_, .inr rfl, rfl, duty _ _ _, rfl, rfl, rfl, rfl⟩
      · split
        · exact ⟨_, .inl ⟨rfl, rfl⟩, rfl, duty _ _ _, rfl, rfl, rfl, rfl⟩
        · exact ⟨_, .inl ⟨rfl, rfl⟩, rfl, duty _ _ _, rfl, rfl, rfl, rfl⟩
  | atSpeed =>
      right
      simp only [State.completeMeasurement, state]
      generalize (if stall = true ∨ s.window < ((count : Int) - (s.target : Int)).natAbs
        then s.spindle.miss + 1 else 0) = miss
      split
      · exact ⟨_, .inl ⟨rfl, rfl⟩, rfl, duty _ _ _, rfl, rfl, rfl, rfl⟩
      · exact ⟨_, .inl ⟨rfl, rfl⟩, rfl, duty _ _ _, rfl, rfl, rfl, rfl⟩
  | stopped | kick | faulted => exact .inl (by simp only [State.completeMeasurement, state])

/-! ### Kinds posted -/

/-- The ports of t are those of s with kinds of their own posted. -/
def State.Posts (s t : State) : Prop :=
  ∀ q, ∃ kinds : Byte, kinds &&& ~~~(allKinds q) = 0
    ∧ t.port q = { s.port q with events := (s.port q).events ||| kinds }

namespace State.Posts

variable {s t u : State}

theorem refl (s : State) : s.Posts s := fun q => ⟨0, BitVec.zero_and, by simp⟩

theorem trans (first : s.Posts t) (second : t.Posts u) : s.Posts u := by
  intro q
  obtain ⟨a, ownA, portA⟩ := first q
  obtain ⟨b, ownB, portB⟩ := second q
  refine ⟨a ||| b, ?_, ?_⟩
  · rw [BitVec.and_comm, BitVec.and_or_distrib_left, BitVec.and_comm, ownA, BitVec.and_comm, ownB, BitVec.or_self]
  · rw [portB, portA, BitVec.or_assoc]

/-- A change of other blocks posts nothing. -/
theorem same (h : s.Posts t) (ports : u.ports = t.ports) : s.Posts u := by
  intro q
  rw [State.port_of_ports q ports]
  exact h q

theorem kindBit_own (p : Port) (k : EventKind) : kindBit p k &&& ~~~(allKinds p) = 0 := by
  cases p <;> cases k <;> decide

theorem post (h : s.Posts t) (p : Port) (k : EventKind) : s.Posts (t.post p k) := by
  refine h.trans fun q => ?_
  by_cases own : q = p
  · subst own
    exact ⟨kindBit q k, kindBit_own q k, by simp [State.post]⟩
  · exact ⟨0, BitVec.zero_and, by simp [State.post, own]⟩

theorem postIf (h : s.Posts t) (b : Bool) (p : Port) (k : EventKind) : s.Posts (t.postIf b p k) := by
  cases b
  · exact h
  · exact h.post p k

/-! #### Cell control and the spindle loop -/

theorem revoke (h : s.Posts t) (test : Grant → Bool) : s.Posts (t.revoke test) := by
  unfold State.revoke
  dsimp only
  split
  · exact post (h.same (by rfl)) _ _
  · exact h.same rfl

theorem stopSpindle (h : s.Posts t) : s.Posts t.stopSpindle := by
  unfold State.stopSpindle
  split
  · exact revoke (h.same (by rfl)) _
  · exact h

theorem queueSave (h : s.Posts t) (r : RecordId) : s.Posts (t.queueSave r) := h.same (by simp)

theorem storeBegin (h : s.Posts t) : s.Posts t.storeBegin := h.same (by simp)

theorem enterPark (h : s.Posts t) : s.Posts t.enterPark :=
  queueSave (stopSpindle (revoke (h.same (by rfl)) _)) _

theorem enterStandby (h : s.Posts t) : s.Posts t.enterStandby :=
  stopSpindle (revoke (h.same (by rfl)) _)

theorem parkIfActive (h : s.Posts t) : s.Posts t.parkIfActive := by
  unfold State.parkIfActive
  split
  · exact h.enterPark
  · exact h.enterPark
  all_goals exact h

theorem countFault (h : s.Posts t) (k : FaultKind) : s.Posts (t.countFault k) := post (h.same (by rfl)) _ _

theorem reevaluateFault (h : s.Posts t) : s.Posts t.reevaluateFault := h.same (by simp)

theorem raise (h : s.Posts t) (k : FaultKind) : s.Posts (t.raise k) := by
  have active : s.Posts (t.modifyFault k fun e => { e with active := e.active || k.persistent }) := h.same (by simp)
  have counted := (active.countFault k).reevaluateFault
  unfold State.raise
  dsimp only
  split
  · split
    · exact counted.parkIfActive
    · exact counted
    · exact counted
  · exact active.same (by simp)

theorem enterFaulted (h : s.Posts t) (cause : SpindleCause) : s.Posts (t.enterFaulted cause) :=
  raise (revoke (h.same (by rfl)) _) _

theorem completeMeasurement (h : s.Posts t) (count : Nat) (stall : Bool) :
    s.Posts (t.completeMeasurement count stall) := by
  rcases t.completeMeasurement_cases count stall with same | ⟨sp, ⟨ends, -⟩ | ends, -⟩
  · rwa [same]
  · rw [ends]
    exact h.same rfl
  · rw [ends]
    exact enterFaulted (h.same (by rfl)) _

theorem completeStall (h : s.Posts t) (counted : Nat) : s.Posts (t.completeStall counted) :=
  completeMeasurement (h.same (by rfl)) _ _

theorem advanceMeasurement (h : s.Posts t) (cycles : Nat) : s.Posts (t.advanceMeasurement cycles) := by
  unfold State.advanceMeasurement
  split
  · exact h
  · split
    · exact h.same rfl
    · exact h.completeStall _

theorem edgeInMeasurement (h : s.Posts t) : s.Posts t.edgeInMeasurement := by
  unfold State.edgeInMeasurement
  split
  · exact h
  · dsimp only
    split
    · exact h.same rfl
    · split
      · exact completeMeasurement (h.same (by rfl)) _ _
      · exact h.same rfl

theorem tachEdge (h : s.Posts t) (cycles : Nat) : s.Posts (t.tachEdge cycles) := by
  unfold State.tachEdge
  split
  · unfold State.kickEdge
    dsimp only
    split <;> exact h.same rfl
  · exact (h.advanceMeasurement _).edgeInMeasurement
  · exact (h.advanceMeasurement _).edgeInMeasurement
  all_goals exact h

theorem controlPeriod (h : s.Posts t) : s.Posts t.controlPeriod := by
  unfold State.controlPeriod
  dsimp only
  split <;> exact h.same rfl

theorem addWear (h : s.Posts t) (length : Nat) : s.Posts (t.addWear length) := by
  unfold State.addWear
  dsimp only
  split
  · exact raise (h.same (by rfl)) _
  · exact h.same rfl

/-! #### Boards and panels -/

theorem reexamine (h : s.Posts t) (i : Fin 4) : s.Posts (t.reexamine i) := by
  unfold State.reexamine
  split
  · exact h
  · dsimp only
    split
    · exact queueSave (post (h.same (by simp)) _ _) _
    · exact h.same (by simp)

theorem moveBoard (h : s.Posts t) (i : Fin 4) (b : Nat) (st : BoardState) : s.Posts (t.moveBoard i b st) :=
  State.Posts.reexamine (h.same (by simp)) i

theorem dropBoard (h : s.Posts t) (l : Located) : s.Posts (t.dropBoard l) := by
  unfold State.dropBoard
  dsimp only
  split
  · exact raise (moveBoard (post (h.same (by simp)) _ _) _ _ _) _
  · exact raise (moveBoard (h.same (by simp)) _ _ _) _

theorem cutTab (h : s.Posts t) (l : Located) (n : Nat) : s.Posts (t.cutTab l n) := by
  unfold State.cutTab
  have cut : s.Posts ((t.modifyBoard l.record l.index (·.countCut (t.isHold l.panel l.index n))).setTab l.record
      l.index n .cut) := h.same (by simp)
  dsimp only
  split
  · split
    · split
      · exact cut.moveBoard _ _ _
      · exact cut.dropBoard l
      · exact cut.dropBoard l
      all_goals exact cut
    · exact cut
  · split
    · exact post (same (cut.moveBoard _ _ _) (by rfl)) _ _
    · exact cut

/-! #### Slots, register and manifest -/

theorem markFull (h : s.Posts t) (n : Nat) : s.Posts (t.markFull n) := post (h.same (by simp)) _ _

theorem loosen (h : s.Posts t) (l : Located) : s.Posts (t.loosen l) :=
  State.Posts.post (State.Posts.moveBoard (h.same (by simp)) _ _ _) _ _

theorem review (h : s.Posts t) (i : Fin 4) (b : Nat) : s.Posts (t.review i b) := h.same (by simp)

theorem stow (h : s.Posts t) (l : Located) (j : Nat) : s.Posts (t.stow l j) :=
  review (moveBoard (h.same (by simp)) _ _ _) _ _

theorem doubt (h : s.Posts t) (l : Located) : s.Posts (t.doubt l) :=
  raise (post (h.same (by simp)) _ _) _

theorem condemn (h : s.Posts t) (tag : Nat) : s.Posts (t.condemn tag) :=
  markFull (raise (h.same (by simp)) _) 1

theorem retire (h : s.Posts t) (tag k : Nat) : s.Posts (t.retire tag k) := by
  unfold State.retire
  refine State.Posts.raise ?_ _
  split
  · exact State.Posts.loosen (h.same (by simp)) _
  · exact h.same (by simp)

theorem seatFailure (h : s.Posts t) (k : Nat) : s.Posts (t.seatFailure k) := by
  unfold State.seatFailure
  split
  · exact h
  · dsimp only
    split
    · exact h.same (by simp)
    · split
      · exact h.same (by simp)
      · split
        · exact State.Posts.retire (h.same (by simp)) _ _
        · exact State.Posts.condemn (h.same (by simp)) _

/-! #### Insertion control -/

theorem withdraw (h : s.Posts t) : s.Posts t.withdraw := by
  unfold State.withdraw
  dsimp only
  split
  · split
    · exact post (h.same (by rfl)) _ _
    · exact h.same rfl
  · exact h.same rfl

theorem disturb (h : s.Posts t) : s.Posts t.disturb := by
  unfold State.disturb
  split
  · exact h
  · split
    · exact h
    · exact post (post (h.same (by rfl)) _ _) _ _

theorem counterMoved (h : s.Posts t) : s.Posts t.counterMoved := by
  unfold State.counterMoved
  split
  · exact h
  · have kept : ∀ (c : Word24) (m : Session), s.Posts (match t.insertion.confirmation with
        | some k => if m.type.near c k then t else t.withdraw
        | none => t) := by
      intro c m
      split
      · split
        · exact h
        · exact h.withdraw
      · exact h
    dsimp only
    split
    · split
      · exact kept _ _
      · exact (kept _ _).disturb
    · exact kept _ _

theorem verify (h : s.Posts t) (l : Located) (k n : Nat) (c : Word24) : s.Posts (t.verify l k n c) := by
  unfold State.verify
  split
  · exact h.doubt l
  · split
    · split
      · exact h.stow l k
      · split
        · exact raise (stow (h.same (by simp)) _ _) _
        · exact h.doubt l
    · exact h.doubt l
    · exact h.doubt l

theorem endWait (h : s.Posts t) {judge : State → Located → SettleWait → State}
    (judged : ∀ v l w, s.Posts v → s.Posts (judge v l w)) : s.Posts (t.endWait judge) := by
  unfold State.endWait
  split
  · exact h
  · dsimp only
    split
    · exact judged _ _ _ (h.same rfl)
    · exact h.same rfl

/-! #### The rules of the commands -/

theorem abortPanel (h : s.Posts t) (i : Fin 4) (panel : Panel) : s.Posts (t.abortPanel i panel) := by
  have ended : s.Posts (t.endClaimOf i) := by
    unfold State.endClaimOf
    split
    · split
      · exact post (h.same (by simp)) _ _
      · exact h
    · exact h
  exact reexamine (same (ended.revoke fun g => g.serial == panel.serial) (by simp)) i

theorem divertBoard (h : s.Posts t) (l : Located) : s.Posts (t.divertBoard l) := by
  unfold State.divertBoard
  dsimp only
  split
  · exact loosen (h.same (by simp)) l
  · exact h.same (by simp)

theorem resetSpindle (h : s.Posts t) : s.Posts t.resetSpindle := by
  unfold State.resetSpindle
  dsimp only
  split <;> exact h.same (by simp)

theorem resolveAbsent (h : s.Posts t) (l : Located) (k : Nat) : s.Posts (t.resolveAbsent l k) :=
  seatFailure (review (moveBoard (h.same (by simp)) _ _ _) _ _) k

theorem emptyBin (h : s.Posts t) : s.Posts t.emptyBin := by
  unfold State.emptyBin
  dsimp only
  split
  · exact h.same (by simp)
  · exact h.same rfl

theorem setResponse (h : s.Posts t) (k : FaultKind) (on : Bool) (act : FaultAction) (keep : Bool) :
    s.Posts (t.setResponse k on act keep) := by
  unfold State.setResponse
  dsimp only
  split
  · exact raise (h.same (by simp)) k
  · exact h.same (by simp)

theorem setCapacity (h : s.Posts t) (n : Nat) : s.Posts (t.setCapacity n) := by
  unfold State.setCapacity
  dsimp only
  split
  · split
    · exact h.same rfl
    · exact raise (h.same (by rfl)) _
  · split
    · exact h.same (by simp)
    · exact h.same rfl

theorem putLimits (h : s.Posts t) (hang speed feed bin : Nat) : s.Posts (t.putLimits hang speed feed bin) :=
  setCapacity (h.same (by simp)) bin

theorem settleCut (h : s.Posts t) (g : Grant) {f : State → Located → State}
    (settled : ∀ l, s.Posts (f t l)) : s.Posts (t.settleCut g f) := by
  unfold State.settleCut
  split
  · exact h
  · split
    · exact h
    · exact settled _

theorem cutDone (h : s.Posts t) (g : Grant) : s.Posts (t.cutDone g) := by
  have charged : s.Posts (t.dropOldest.addWear g.cutLength) := addWear (h.same (by simp)) _
  exact charged.settleCut g fun l => charged.cutTab l _

theorem cutAbort (h : s.Posts t) (g : Grant) (n : Nat) : s.Posts (t.cutAbort g n) := by
  have charged : s.Posts (t.dropOldest.addWear n) := addWear (h.same (by simp)) _
  exact charged.settleCut g fun l => charged.same (by simp)

theorem expire (h : s.Posts t) (g : Grant) : s.Posts (t.expire g) := by
  unfold State.expire
  refine raise (post ?_ _ _) _
  split <;> exact h.same (by simp)

theorem claimBoard (h : s.Posts t) (l : Located) : s.Posts (t.claimBoard l) :=
  same (moveBoard (t := t.unqueue l.id) (h.same (by simp)) _ _ _) (by rfl)

theorem releaseBoard (h : s.Posts t) (l : Located) : s.Posts (t.releaseBoard l) :=
  revoke (same (moveBoard (t := t.emptyClaim) (h.same (by simp)) l.record l.index .hanging) (by rfl)) _

theorem bindBoard (h : s.Posts t) (l : Located) (d : Destination) : s.Posts (t.bindBoard l d) :=
  same (moveBoard (t := t.setDestination l.record l.index (some d)) (h.same (by simp)) _ _ _) (by rfl)

theorem noRun (h : s.Posts t) (n : Nat) : s.Posts (t.noRun n) := by
  unfold State.noRun
  split
  · exact h.markFull _
  · exact h.post _ _

theorem rejectPlaced (h : s.Posts t) (l : Located) : s.Posts (t.rejectPlaced l) := by
  have binned : s.Posts (t.binned l) := moveBoard (h.same (by rfl)) _ _ _
  rw [State.rejectPlaced_eq]
  unfold State.raiseIfFull
  split
  · exact binned.raise _
  · exact binned

theorem openInsertion (h : s.Posts t) (l : Located) (k : Nat) : s.Posts (t.openInsertion l k) :=
  same (h.moveBoard l.record l.index .inserting) (by rfl)

theorem drawBack (h : s.Posts t) (l : Located) (k : Nat) : s.Posts (t.drawBack l k) := by
  have failed := (moveBoard (t := t.closeInsertion) (h.same (by simp)) l.record l.index .bound).seatFailure k
  unfold State.drawBack State.divertIfBound
  split
  · split
    · exact failed.loosen _
    · exact failed
  · exact failed

theorem letGo (h : s.Posts t) (l : Located) (k : Nat) : s.Posts (t.letGo l k) := by
  have free : s.Posts ((t.closeInsertion.moveBoard l.record l.index .verifying).emptyClaim) :=
    same (moveBoard (t := t.closeInsertion) (h.same (by simp)) l.record l.index .verifying) (by simp)
  unfold State.letGo
  dsimp only
  split
  · exact free.doubt l
  · split
    · exact free.verify _ _ _ _
    · exact free.same rfl

theorem loadMagazine (h : s.Posts t) (tag typeNumber : Nat) (type : MagType) :
    s.Posts (t.loadMagazine tag typeNumber type) := by
  have filed : s.Posts (t.setRegister (fileTag t.magazine.register tag typeNumber)) := h.same (by simp)
  unfold State.loadMagazine
  dsimp only
  split
  · exact markFull (filed.same (by rfl)) 1
  · exact filed.same rfl

theorem unloadMagazine (h : s.Posts t) (m : Session) : s.Posts (t.unloadMagazine m) :=
  post (same (same (u := t.withdraw.setRegister (touchEntry t.magazine.register m.tag)) h.withdraw (by simp))
    (by rfl)) _ _

theorem armHoming (h : s.Posts t) : s.Posts t.armHoming := by
  unfold State.armHoming
  dsimp only
  split
  · exact withdraw (h.same (by rfl))
  · exact h.same rfl

theorem beginMove (h : s.Posts t) : s.Posts t.beginMove :=
  postIf (withdraw (h.same (by rfl))) _ _ _

theorem endMove (h : s.Posts t) : s.Posts t.endMove := withdraw (h.same (by rfl))

theorem confirm (h : s.Posts t) (k : Nat) : s.Posts (t.confirm k) := post (h.same (by rfl)) _ _

theorem illegal (h : s.Posts t) (a b : Bool) : s.Posts (t.illegal a b) := by
  unfold State.illegal
  refine endWait (disturb (withdraw ?_)) fun _ _ _ h => h.doubt _
  dsimp only
  split
  · exact h.same rfl
  · exact post (raise (h.same (by rfl)) _) _ _

theorem countTransition (h : s.Posts t) (a b : Bool) : s.Posts (t.countTransition a b) :=
  counterMoved (h.same (by rfl))

theorem completeHoming (h : s.Posts t) : s.Posts t.completeHoming := by
  unfold State.completeHoming
  refine counterMoved ?_
  split
  · exact h.same (by simp)
  · exact h.same rfl

theorem seatEdge (h : s.Posts t) : s.Posts t.seatEdge := by
  unfold State.seatEdge
  split
  · dsimp only
    split
    · exact endWait (h.same (by rfl)) fun _ _ _ h => h.verify _ _ _ _
    · exact h.same rfl
  · exact h.raise _

theorem openGuard (h : s.Posts t) : s.Posts t.openGuard := parkIfActive (stopSpindle (h.same (by rfl)))

theorem endWrite (h : s.Posts t) (w : StoreWrite) (ok : Bool) : s.Posts (t.endWrite w ok) := by
  unfold State.endWrite
  refine postIf ?_ _ _ _
  split
  · exact h.same rfl
  · exact raise (h.same (by rfl)) _

theorem startPanel (h : s.Posts t) (i : Fin 4) (f : Fixture) (slot : Fin 4) (serial : Nat) (boards : List Board) :
    s.Posts (t.startPanel i f slot serial boards) := postIf (h.same (by rfl)) _ _ _

theorem issue (h : s.Posts t) (c : Choice) (g : Grant) : s.Posts (t.issue c g) :=
  same (same (u := t.setTab c.record c.board c.tab .granted) h (by simp)) (by rfl)

/-! #### The end of a change -/

theorem refreshFull (h : s.Posts t) (before : State) : s.Posts (before.refreshFull t) := by
  unfold State.refreshFull
  split
  · split
    · exact h
    · split
      · exact h.markFull 1
      · split
        · split
          · exact h.same (by simp)
          · exact h
        · exact h
  · exact h
  · exact h

theorem refreshWait (h : s.Posts t) (before : State) : s.Posts (before.refreshWait t) := by
  unfold State.refreshWait
  split
  · exact post (h.same (by rfl)) _ _
  · exact h

theorem announce (h : s.Posts t) (before : State) : s.Posts (before.announce t) :=
  (((h.postIf _ _ _).postIf _ _ _).postIf _ _ _).postIf _ _ _

theorem commit (h : s.Posts t) (before : State) : s.Posts (commit before t) :=
  storeBegin (announce (same ((h.refreshFull before).refreshWait before) (by simp)) before)

end State.Posts

/-! ### The changes post kinds -/

/-- The rule of a command posts kinds and leaves the rest of every port alone. -/
theorem Changes.posts {s u : State} {i : Instr} (change : Changes s i u) : s.Posts u := by
  have h := State.Posts.refl s
  cases change with
  | idle => exact h
  | holdSet | holdClear | recipeOpen | recipeBoard | recipeTab | recipeClose | recipeErase | resolveTabUncut
    | faultClear => exact h.same (by simp)
  | bitChange => exact h.same (by unfold State.mountBit; simp)
  | storeSave => exact h.same rfl
  | registerRepair => exact h.same (by unfold State.modifyEntry; simp)
  | bitSetup => exact h.same (by unfold State.setupBit; simp)
  | manifestRelease | constantsWrite | binFull | referenceLevel | guardCloses | panelResult => exact h.same rfl
  | controlPeriod => exact h.controlPeriod
  | panelStart => exact h.startPanel _ _ _ _ _
  | panelAbort => exact h.abortPanel _ _
  | resolveTabCut => exact h.cutTab _ _
  | divert => exact h.divertBoard _
  | spindleReset => exact h.resetSpindle
  | resolvePresent => exact h.stow _ _
  | resolveAbsent => exact h.resolveAbsent _ _
  | binEmptied => exact h.emptyBin
  | cellStart => exact h.same (by simp)
  | cellResume => exact h.same (by simp)
  | cellPark => exact h.enterPark
  | cellStop => exact h.enterStandby
  | faultResponse => exact h.setResponse _ _ _ _
  | setLimits => exact h.putLimits _ _ _ _
  | nextCut => exact h.issue _ _
  | cutDone => exact h.cutDone _
  | cutAbort => exact h.cutAbort _ _
  | claimNext => exact h.claimBoard _
  | claim => exact h.claimBoard _
  | gripped => exact h.moveBoard _ _ _
  | release => exact h.releaseBoard _
  | bindToBin => exact h.bindBoard _ _
  | bindToSlot => exact State.Posts.bindBoard (h.same (by simp)) _ _
  | noRoom n => exact (h.noRun n).same rfl
  | rejectPlaced => exact h.rejectPlaced _
  | insertBegin => exact h.openInsertion _ _
  | insertEndAborted => exact h.drawBack _ _
  | insertEndSeated => exact h.letGo _ _
  | magLoaded => exact h.loadMagazine _ _ _
  | magUnload => exact h.unloadMagazine _
  | homeBegin => exact h.armHoming
  | moveBegin => exact h.beginMove
  | arrived => exact h.endMove
  | confirmed => exact h.endMove.confirm _
  | tachEdge => exact h.tachEdge _
  | stallMeasurement => exact h.completeStall _
  | kickTimeout => exact h.enterFaulted _
  | settle => exact h.enterFaulted _
  | grantExpiry => exact h.expire _
  | parkTimer => exact h.enterPark
  | seatSettleTimeout => exact h.endWait fun _ _ _ h => h.doubt _
  | encoderIllegal => exact h.illegal _ _
  | encoderTransition => exact h.countTransition _ _
  | illegalTransition => exact h.illegal _ _
  | referenceEdge => exact State.Posts.completeHoming (h.same (by rfl))
  | seatSensorEdge => exact State.Posts.seatEdge (h.same (by rfl))
  | guardOpens => exact h.openGuard
  | storeWriteEnd => exact h.endWrite _ _

end Sys2Proof.Machine

/-! O7, and the relation PortsSafe of O60: read off the kinds that a command posts. -/

namespace Sys2Proof.Machine

open Sys2Proof

/-! ### What others send stays -/

/-- What a port keeps of its pending kinds, and, if the command is not its own, of its answer, select and enable set. -/
def State.PortKept (s t : State) (i : Instr) (q : Port) : Prop :=
  (i.takesEventOn q = false → (t.port q).events &&& (s.port q).events = (s.port q).events)
    ∧ (i.portOf ≠ some q →
        (t.port q).answer = (s.port q).answer ∧ (t.port q).line = (s.port q).line
          ∧ (t.port q).enabled = (s.port q).enabled)

theorem or_and_cancel_left (a b : Byte) : (a ||| b) &&& a = a := by
  ext i hi
  simp only [BitVec.getElem_and, BitVec.getElem_or]
  cases a[i] <;> simp

theorem State.Posts.portKept {s t : State} (posts : s.Posts t) (i : Instr) (q : Port) : s.PortKept t i q := by
  obtain ⟨kinds, _, same⟩ := posts q
  rw [State.PortKept, same]
  exact ⟨fun _ => or_and_cancel_left _ _, fun _ => ⟨rfl, rfl, rfl⟩⟩

/-- The answer to a command keeps what the change kept: it goes to the command's own port. -/
theorem State.PortKept.answer {s t : State} {i : Instr} {q : Port} (kept : s.PortKept t i q) {p : Port}
    (own : i.portOf = some p) (code : Byte) (r : Reply) : s.PortKept (t.answer p code r) i q := by
  obtain ⟨events, rest⟩ := kept
  rw [State.PortKept, State.answer, State.port_modifyPort]
  by_cases here : q = p
  · subst here
    rw [if_pos rfl]
    exact ⟨events, fun other => absurd own other⟩
  · rw [if_neg here]
    exact ⟨events, rest⟩

/-- A port's own command without a change of a block touches no other port, and takes a kind away by TAKE_EVENT alone. -/
theorem State.PortKept.ofPort {s : State} {i : Instr} {p : Port} {v : PortState} (own : i.portOf = some p)
    (events : v.events = (s.port p).events ∨ i = .takeEvent p ∧ ∃ gone : Byte, v.events = (s.port p).events &&& gone)
    (q : Port) : s.PortKept (s.modifyPort p fun _ => v) i q := by
  rw [State.PortKept, State.port_modifyPort]
  by_cases here : q = p
  · subst here
    rw [if_pos rfl]
    refine ⟨fun kept => ?_, fun other => absurd own other⟩
    rcases events with same | ⟨takes, _⟩
    · rw [same, BitVec.and_self]
    · subst takes
      simp [Instr.takesEventOn] at kept
  · rw [if_neg here]
    exact ⟨fun _ => BitVec.and_self, fun _ => ⟨rfl, rfl, rfl⟩⟩

/-- Settles O7, by the ways a command ends. -/
theorem portsKeepWhatOthersSend : Obligations.PortsKeepWhatOthersSend := by
  intro i s t q runs notReset
  have kept : s.PortKept t i q := by
    cases exec_ends runs with
    | unchanged => exact (State.Posts.refl s).portKept i q
    | port p v own events enabled => exact .ofPort own events q
    | request p code r u own up change => exact ((change.posts.commit s).portKept i q).answer own code r
    | event u up change => exact (change.posts.commit s).portKept i q
    | hardReset which => rcases which with rfl | rfl <;> simp [Instr.resets] at notReset
    | completed lines which down => subst which; simp [Instr.resets] at notReset
    | softReset p code r which free => subst which; simp [Instr.resets] at notReset
  exact kept

/-! ### A port holds kinds of its own -/

/-- Every port holds only kinds of its own list. -/
theorem portsSafe_iff {s : State} : PortsSafe s ↔ ∀ p, PortSafe s p :=
  ⟨fun ⟨cell, router, pick, magazine⟩ p => by cases p <;> assumption, fun h => ⟨h _, h _, h _, h _⟩⟩

theorem or_own {a b m : Byte} (ownA : a &&& ~~~m = 0) (ownB : b &&& ~~~m = 0) : (a ||| b) &&& ~~~m = 0 := by
  rw [BitVec.and_comm, BitVec.and_or_distrib_left, BitVec.and_comm, ownA, BitVec.and_comm, ownB, BitVec.or_self]

theorem and_own {a m : Byte} (own : a &&& ~~~m = 0) (b : Byte) : (a &&& b) &&& ~~~m = 0 := by
  rw [BitVec.and_assoc, BitVec.and_comm b, ← BitVec.and_assoc, own]
  exact BitVec.zero_and

theorem State.Posts.portSafe {s t : State} (posts : s.Posts t) {p : Port} (safe : PortSafe s p) : PortSafe t p := by
  obtain ⟨kinds, own, same⟩ := posts p
  obtain ⟨events, enabled⟩ := safe
  rw [PortSafe, same]
  exact ⟨or_own events own, enabled⟩

theorem PortSafe.answer {t : State} {q : Port} (safe : PortSafe t q) (p : Port) (code : Byte) (r : Reply) :
    PortSafe (t.answer p code r) q := by
  rw [PortSafe, State.answer, State.port_modifyPort]
  split
  next here => subst here; exact safe
  · exact safe

/-- After a reset RESET_DONE alone is pending and every kind of the port enabled. -/
theorem PortSafe.of_reset {s : State} {p : Port} (events : (s.port p).events = resetEvents p)
    (enabled : (s.port p).enabled = allKinds p) : PortSafe s p := by
  rw [PortSafe, events, enabled]
  cases p <;> decide

theorem State.Posts.raiseWorn {s t : State} (posts : s.Posts t) : s.Posts t.raiseWorn := by
  unfold State.raiseWorn
  split
  · exact posts.raise _
  · exact posts

theorem State.beginReset_portSafe (s : State) (p : Port) : PortSafe s.beginReset p :=
  .of_reset (by cases p <;> rfl) (by cases p <;> rfl)

theorem State.completeReset_portSafe (s : State) (lines : Lines) (p : Port) : PortSafe (s.completeReset lines) p :=
  State.Posts.portSafe (((State.Posts.refl _).post .magazine .homingNeeded).raiseWorn)
    (.of_reset (by cases p <;> rfl) (by cases p <;> rfl))

theorem State.softReset_portSafe (s : State) (p : Port) : PortSafe s.softReset p :=
  State.Posts.portSafe (((State.Posts.refl _).post .magazine .homingNeeded).raiseWorn)
    (.of_reset (by cases p <;> rfl) (by cases p <;> rfl))

theorem Ends.portSafe {s t : State} {i : Instr} (ends : Ends s i t) {q : Port} (safe : PortSafe s q) : PortSafe t q := by
  cases ends with
  | unchanged => exact safe
  | port p v own events enabled =>
      rw [PortSafe, State.port_modifyPort]
      split
      next here =>
        subst here
        refine ⟨?_, ?_⟩
        · rcases events with same | ⟨_, gone, same⟩
          · rw [same]; exact safe.1
          · rw [same]; exact and_own safe.1 gone
        · rcases enabled with same | ⟨own, _⟩
          · rw [same]; exact safe.2
          · exact own
      · exact safe
  | request p code r u own up change => exact ((change.posts.commit s).portSafe safe).answer p code r
  | event u up change => exact (change.posts.commit s).portSafe safe
  | hardReset => exact s.beginReset_portSafe q
  | completed lines => exact s.completeReset_portSafe lines q
  | softReset p code r => exact (s.softReset_portSafe q).answer p code r

/-- Every step keeps PortsSafe (O60). -/
theorem step_portsSafe (s t : State) (safe : PortsSafe s) (steps : step s = .next t) : PortsSafe t := by
  rw [portsSafe_iff] at safe ⊢
  intro q
  rcases step_cases steps with rfl | ⟨i, rest, ends⟩
  · have ports : s.tick.ports = s.ports := by
      unfold State.tick
      split <;> rfl
    rw [PortSafe, State.port_of_ports q ports]
    exact safe q
  · exact ends.portSafe (safe q)

end Sys2Proof.Machine

/-! What every command does to the cell, the spindle loop and the grant window, as a list of moves (R32, R41, R76 to R92,
R145 to R154). The invariants of O56 to O58 are kept by each move. -/

namespace Sys2Proof.Machine

open Sys2Proof

/-- The fields of the part that the invariants of the spindle, the window and the hold set speak of. -/
def State.core (s : State) : CellControl × Spindle × List Grant × Constants × Bool :=
  (s.cell, s.spindle, s.scheduler.window, s.constants, s.starting)

/-- The cell with other fault entries and another kind raised last. -/
def State.setFaults (s : State) (faults : Vector FaultEntry 12) (last : Option FaultKind) : State :=
  { s with cell := { s.cell with faults := faults, lastRaised := last } }

/-- The rpm that the loop is set to. -/
def Spindle.SameRpm (old new : Spindle) : Prop := new.recipeRpm = old.recipeRpm ∧ new.override = old.override

/-- What the loop may change while it goes on turning, or goes on standing still. -/
structure Spindle.Runs (k : SpindleConstants) (old new : Spindle) : Prop where
  turns : new.state.turning = old.state.turning
  rests : old.state.turning = false → new.duty = old.duty
  duty : k.inRange = true → old.duty ≤ 1023 → new.duty ≤ 1023
  reference : k.inRange = true → 6000 ≤ old.reference ∧ old.reference ≤ 60000 →
    6000 ≤ new.reference ∧ new.reference ≤ 60000

/-- What makes the loop stand still. -/
structure Spindle.Halts (old new : Spindle) : Prop where
  turns : new.state.turning = false
  duty : new.duty = 0
  reference : new.reference = old.reference

/-- The states that moves of the cell, the loop and the window lead to from s. -/
inductive Moves (s : State) : State → Prop
  | refl : Moves s s
  | same {t u} (h : Moves s t) (core : u.core = t.core) : Moves s u
  | refault {t} (h : Moves s t) (faults : Vector FaultEntry 12) (last : Option FaultKind) :
      Moves s (t.setFaults faults last).reevaluateFault
  | holdMember {t} (h : Moves s t) (p : Port) (v : Bool) : Moves s (t.setHolds (t.cell.holds.setPort p v))
  | bringToRest {t} (h : Moves s t) (st : CellState) (idle : st ≠ .run ∧ st ≠ .hold) : Moves s (t.broughtToRest st)
  | revoke {t} (h : Moves s t) (test : Grant → Bool) : Moves s (t.revoke test)
  | dropOldest {t} (h : Moves s t) : Moves s t.dropOldest
  | grant {t} (h : Moves s t) (g : Grant) (atSpeed : t.spindle.state = .atSpeed) (room : t.scheduler.window.length < 2) :
      Moves s { t with scheduler := { t.scheduler with window := t.scheduler.window ++ [g] } }
  | work {t} (h : Moves s t) : Moves s (if t.cell.holds.isEmpty then t.enterRun else t.enterHold)
  | start {t} (h : Moves s t) (working : t.working) (up : t.starting = false) : Moves s t.start
  | run {t} (h : Moves s t) (sp : Spindle) (runs : Spindle.Runs t.constants.spindle t.spindle sp)
      (rpm : t.spindle.SameRpm sp) : Moves s { t with spindle := sp }
  | halt {t} (h : Moves s t) (sp : Spindle) (halts : t.spindle.Halts sp) (rpm : t.spindle.SameRpm sp) :
      Moves s { t with spindle := sp }.revokeAll
  | configure {t} (h : Moves s t) (c : Constants) (idle : t.cell.state = .standby ∨ t.cell.state = .unconfigured)
      (inRange : t.constants.spindle.inRange = true → c.spindle.inRange = true) :
      Moves s { t with constants := c, cell := { t.cell with state := CellState.standby } }

namespace Moves

variable {s t u : State}

/-! #### Cell control -/

theorem enterPark (h : Moves s t) : Moves s t.enterPark :=
  (h.bringToRest .park (by decide)).same (by simp [State.core, State.enterPark_eq])

theorem enterStandby (h : Moves s t) : Moves s t.enterStandby := h.bringToRest .standby (by decide)

theorem modifyFault (h : Moves s t) (k : FaultKind) (f : FaultEntry → FaultEntry) :
    Moves s (t.modifyFault k f).reevaluateFault :=
  h.refault (t.cell.faults.set k.place (f (t.fault k))) t.cell.lastRaised

theorem endCondition (h : Moves s t) (k : FaultKind) : Moves s (t.endCondition k) := h.modifyFault k _

theorem clearLatch (h : Moves s t) (k : FaultKind) : Moves s (t.clearLatch k) := h.modifyFault k _

theorem parkIfActive (h : Moves s t) : Moves s t.parkIfActive := by
  unfold State.parkIfActive
  split
  · exact h.enterPark
  · exact h.enterPark
  all_goals exact h

/-- A change outside of the core before FAULT is re-evaluated is one outside of it after. -/
theorem core_reevaluateFault (core : u.core = t.core) : u.reevaluateFault.core = t.reevaluateFault.core := by
  simp only [State.core, Prod.mk.injEq] at core
  obtain ⟨cell, spindle, window, constants, starting⟩ := core
  have holds : u.faultHolds = t.faultHolds := by simp only [State.faultHolds, State.fault, cell]
  simp only [State.core, State.reevaluateFault, State.setHolds, cell, holds, constants]
  split
  · simp [cell, spindle, window, constants, starting]
  · split <;> (try split) <;> simp [State.enterHold, State.enterRun, spindle, window, constants, starting]

theorem raise (h : Moves s t) (k : FaultKind) : Moves s (t.raise k) := by
  have counted : Moves s (((t.modifyFault k fun e => { e with active := e.active || k.persistent }).countFault
      k).reevaluateFault) :=
    (h.refault _ (some k)).same (core_reevaluateFault rfl)
  unfold State.raise
  dsimp only
  split
  · split
    · exact counted.parkIfActive
    · exact counted
    · exact counted
  · exact h.modifyFault k _

theorem setResponse (h : Moves s t) (k : FaultKind) (on : Bool) (act : FaultAction) (keep : Bool) :
    Moves s (t.setResponse k on act keep) := by
  have put := h.modifyFault k fun e => { e with enabled := on, action := act, latch := keep }
  unfold State.setResponse
  dsimp only
  split
  · exact put.raise k
  · exact put

/-! #### The spindle loop -/

theorem revokeAll (h : Moves s t) : Moves s t.revokeAll := h.revoke _

theorem stopSpindle (h : Moves s t) : Moves s t.stopSpindle := by
  unfold State.stopSpindle
  split
  · exact h.halt _ ⟨rfl, rfl, rfl⟩ ⟨rfl, rfl⟩
  · exact h

/-- A fault of the loop, after a change of the loop that leaves R and the rpm it is set to. -/
theorem fault (h : Moves s t) {sp : Spindle} (reference : sp.reference = t.spindle.reference)
    (rpm : t.spindle.SameRpm sp) (cause : SpindleCause) : Moves s (State.enterFaulted { t with spindle := sp } cause) := by
  have halted : Moves s (State.revokeAll { t with spindle := { sp with
      state := .faulted, duty := 0, measurement := none, kickTimer := none, settleTimer := none, cause := some cause } }) :=
    h.halt _ ⟨rfl, rfl, reference⟩ rpm
  exact halted.raise _

theorem enterFaulted (h : Moves s t) (cause : SpindleCause) : Moves s (t.enterFaulted cause) :=
  h.fault rfl ⟨rfl, rfl⟩ cause

theorem completeMeasurement (h : Moves s t) (count : Nat) (stall : Bool) : Moves s (t.completeMeasurement count stall) := by
  rcases t.completeMeasurement_cases count stall with
    same | ⟨sp, ⟨ends, turns⟩ | ends, turning, duty, recipeRpm, override, reference, -⟩
  · rwa [same]
  · rw [ends]
    exact h.run sp
      { turns := turns.trans turning.symm
        rests := fun rests => absurd (turning.symm.trans rests) (by decide)
        duty := fun _ => duty
        reference := fun _ range => reference ▸ range }
      ⟨recipeRpm, override⟩
  · rw [ends]
    exact h.fault reference ⟨recipeRpm, override⟩ _

/-- A new measurement, or a change of another count of the loop, is no change of its drive. -/
theorem measure (h : Moves s t) (m : Option Measurement) : Moves s { t with spindle := { t.spindle with measurement := m } } :=
  h.run _ ⟨rfl, fun _ => rfl, fun _ low => low, fun _ range => range⟩ ⟨rfl, rfl⟩

theorem completeStall (h : Moves s t) (counted : Nat) : Moves s (t.completeStall counted) :=
  completeMeasurement (h.measure _) _ _

theorem advanceMeasurement (h : Moves s t) (cycles : Nat) : Moves s (t.advanceMeasurement cycles) := by
  unfold State.advanceMeasurement
  split
  · exact h
  · split
    · exact h.measure _
    · exact h.completeStall _

theorem edgeInMeasurement (h : Moves s t) : Moves s t.edgeInMeasurement := by
  unfold State.edgeInMeasurement
  split
  · exact h
  · dsimp only
    split
    · exact h.measure _
    · split
      · exact completeMeasurement (h.measure _) _ _
      · exact h.measure _

theorem kickEdge (h : Moves s t) (kick : t.spindle.state = .kick) : Moves s t.kickEdge := by
  have counted : Moves s { t with spindle := { t.spindle with kickEdges := t.spindle.kickEdges + 1 } } :=
    h.run _ ⟨rfl, fun _ => rfl, fun _ low => low, fun _ range => range⟩ ⟨rfl, rfl⟩
  unfold State.kickEdge
  dsimp only
  split
  · refine counted.run _ ⟨?_, fun rests => ?_, fun inRange _ => ?_, fun _ _ => ?_⟩ ⟨rfl, rfl⟩
    · simp [SpindleState.turning, kick]
    · simp [SpindleState.turning, kick] at rests
    · simp only [SpindleConstants.inRange, Bool.and_eq_true, decide_eq_true_eq] at inRange
      obtain ⟨_, _, _, _, startDuty, _⟩ := inRange
      exact startDuty
    · simp
  · exact counted

theorem tachEdge (h : Moves s t) (cycles : Nat) : Moves s (t.tachEdge cycles) := by
  unfold State.tachEdge
  split
  next kick => exact h.kickEdge kick
  · exact (h.advanceMeasurement _).edgeInMeasurement
  · exact (h.advanceMeasurement _).edgeInMeasurement
  all_goals exact h

theorem commanded_range (sp : Spindle) : 6000 ≤ sp.commanded ∧ sp.commanded ≤ 60000 := by
  rw [Spindle.commanded, clamp_eq_max_min (by omega)]
  omega

theorem rampStep_range {reference commanded : Nat} (rate : Nat) (r : 6000 ≤ reference ∧ reference ≤ 60000)
    (c : 6000 ≤ commanded ∧ commanded ≤ 60000) :
    6000 ≤ rampStep reference commanded rate ∧ rampStep reference commanded rate ≤ 60000 := by
  unfold rampStep
  split <;> omega

theorem controlPeriod (h : Moves s t) : Moves s t.controlPeriod := by
  unfold State.controlPeriod
  dsimp only
  split
  · exact h.run _ ⟨rfl, fun _ => rfl, fun _ low => low,
      fun _ range => rampStep_range _ range (commanded_range _)⟩ ⟨rfl, rfl⟩
  all_goals exact h.run _ ⟨rfl, fun _ => rfl, fun _ low => low, fun _ range => range⟩ ⟨rfl, rfl⟩

theorem addWear (h : Moves s t) (length : Nat) : Moves s (t.addWear length) := by
  unfold State.addWear
  dsimp only
  split
  · exact raise (h.same (by rfl)) _
  · exact h.same rfl

/-! #### Boards, slots and insertions -/

theorem dropBoard (h : Moves s t) (l : Located) : Moves s (t.dropBoard l) := by
  unfold State.dropBoard
  refine raise (h.same ?_) _
  split <;> simp [State.core]

theorem cutTab (h : Moves s t) (l : Located) (n : Nat) : Moves s (t.cutTab l n) := by
  have cut : Moves s ((t.modifyBoard l.record l.index (·.countCut (t.isHold l.panel l.index n))).setTab l.record
      l.index n .cut) := h.same (by simp [State.core])
  unfold State.cutTab
  dsimp only
  split
  · split
    · split
      · exact cut.same (by simp [State.core])
      · exact cut.dropBoard l
      · exact cut.dropBoard l
      all_goals exact cut
    · exact cut
  · split
    · exact cut.same (by simp [State.core])
    · exact cut

theorem doubt (h : Moves s t) (l : Located) : Moves s (t.doubt l) := raise (h.same (by simp [State.core])) _

theorem markFull (h : Moves s t) (n : Nat) : Moves s (t.markFull n) := h.same (by simp [State.core])

theorem condemn (h : Moves s t) (tag : Nat) : Moves s (t.condemn tag) :=
  markFull (raise (h.same (by simp [State.core])) _) 1

theorem seatFailure (h : Moves s t) (k : Nat) : Moves s (t.seatFailure k) := by
  unfold State.seatFailure
  split
  · exact h
  · dsimp only
    split
    · exact h.same (by simp [State.core])
    · split
      · exact h.same (by simp [State.core])
      · split
        · unfold State.retire
          refine raise (h.same ?_) _
          split <;> simp [State.core]
        · exact condemn (h.same (by simp [State.core])) _

theorem verify (h : Moves s t) (l : Located) (k n : Nat) (c : Word24) : Moves s (t.verify l k n c) := by
  unfold State.verify
  split
  · exact h.doubt l
  · split
    · split
      · exact h.same (by simp [State.core])
      · split
        · exact raise (h.same (by simp [State.core])) _
        · exact h.doubt l
    · exact h.doubt l
    · exact h.doubt l

theorem endWait (h : Moves s t) {judge : State → Located → SettleWait → State}
    (judged : ∀ v l w, Moves s v → Moves s (judge v l w)) : Moves s (t.endWait judge) := by
  unfold State.endWait
  split
  · exact h
  · dsimp only
    split
    · exact judged _ _ _ (h.same rfl)
    · exact h.same rfl

theorem post (h : Moves s t) (p : Port) (k : EventKind) : Moves s (t.post p k) := h.same (by simp [State.core])

theorem postIf (h : Moves s t) (b : Bool) (p : Port) (k : EventKind) : Moves s (t.postIf b p k) :=
  h.same (by simp [State.core])

theorem withdraw (h : Moves s t) : Moves s t.withdraw := h.same (by simp [State.core])

theorem disturb (h : Moves s t) : Moves s t.disturb := h.same (by simp [State.core])

theorem counterMoved (h : Moves s t) : Moves s t.counterMoved := h.same (by simp [State.core])

theorem illegal (h : Moves s t) (a b : Bool) : Moves s (t.illegal a b) := by
  unfold State.illegal
  refine endWait (disturb (withdraw ?_)) fun _ _ _ h => h.doubt _
  split
  · exact h.same rfl
  · exact post (raise (h.same (by rfl)) _) _ _

theorem completeHoming (h : Moves s t) : Moves s t.completeHoming := by
  unfold State.completeHoming
  refine counterMoved ?_
  split
  · exact endCondition (h.same (by rfl)) _
  · exact h.same rfl

theorem seatEdge (h : Moves s t) : Moves s t.seatEdge := by
  unfold State.seatEdge
  split
  · dsimp only
    split
    · exact endWait (h.same (by rfl)) fun _ _ _ h => h.verify _ _ _ _
    · exact h.same rfl
  · exact h.raise _

theorem drawBack (h : Moves s t) (l : Located) (k : Nat) : Moves s (t.drawBack l k) := by
  have failed := seatFailure (h.same (u := t.closeInsertion.moveBoard l.record l.index .bound) (by simp [State.core])) k
  unfold State.drawBack State.divertIfBound
  split
  · split
    · exact failed.same (by simp [State.core])
    · exact failed
  · exact failed

theorem letGo (h : Moves s t) (l : Located) (k : Nat) : Moves s (t.letGo l k) := by
  have free : Moves s ((t.closeInsertion.moveBoard l.record l.index .verifying).emptyClaim) :=
    h.same (by simp [State.core])
  unfold State.letGo
  dsimp only
  split
  · exact free.doubt l
  · split
    · exact free.verify _ _ _ _
    · exact free.same rfl

/-! #### The rules of the commands -/

theorem abortPanel (h : Moves s t) (i : Fin 4) (panel : Panel) : Moves s (t.abortPanel i panel) := by
  have ended : Moves s (t.endClaimOf i) := by
    unfold State.endClaimOf
    split
    · split
      · exact h.same (by simp [State.core])
      · exact h
    · exact h
  exact (ended.revoke fun g => g.serial == panel.serial).same (by simp [State.abortPanel, State.core])

theorem divertBoard (h : Moves s t) (l : Located) : Moves s (t.divertBoard l) := by
  unfold State.divertBoard
  dsimp only
  split <;> exact h.same (by simp [State.core])

theorem working_setHolds (working : t.working) (holds : HoldSet) : (t.setHolds holds).working := by
  unfold State.setHolds
  split
  · exact working
  · rcases working with run | hold
    · simp only [run]
      split
      · exact .inl rfl
      · exact .inr rfl
    · simp only [hold]
      split
      · exact .inl rfl
      · exact .inr rfl

theorem working_endCondition (working : t.working) (k : FaultKind) : (t.endCondition k).working :=
  working_setHolds (t := t.modifyFault k fun e => { e with active := false }) working _

theorem resetSpindle (h : Moves s t) (faulted : t.spindle.state = .faulted) (up : t.starting = false) :
    Moves s t.resetSpindle := by
  have stopped : Moves s { t with spindle := { t.spindle with state := .stopped } } :=
    h.run _ ⟨by simp [SpindleState.turning, faulted], fun _ => rfl, fun _ low => low, fun _ range => range⟩ ⟨rfl, rfl⟩
  have ended := stopped.endCondition .spindleFault
  have working (w : t.working) :
      (State.endCondition { t with spindle := { t.spindle with state := .stopped } } .spindleFault).working :=
    working_endCondition (t := { t with spindle := { t.spindle with state := .stopped } }) w _
  unfold State.resetSpindle
  dsimp only
  split
  next run => exact ended.start (working (.inl run)) (by simpa using up)
  next hold => exact ended.start (working (.inr hold)) (by simpa using up)
  all_goals exact ended

theorem emptyBin (h : Moves s t) : Moves s t.emptyBin := by
  unfold State.emptyBin
  dsimp only
  split
  · exact endCondition (h.same (by rfl)) _
  · exact h.same rfl

theorem setCapacity (h : Moves s t) (n : Nat) : Moves s (t.setCapacity n) := by
  unfold State.setCapacity
  dsimp only
  split
  · split
    · exact h.same rfl
    · exact raise (h.same (by rfl)) _
  · split
    · exact endCondition (h.same (by rfl)) _
    · exact h.same rfl

theorem settleCut (h : Moves s t) (g : Grant) {f : State → Located → State} (settled : ∀ l, Moves s (f t l)) :
    Moves s (t.settleCut g f) := by
  unfold State.settleCut
  split
  · exact h
  · split
    · exact h
    · exact settled _

theorem cutDone (h : Moves s t) (g : Grant) : Moves s (t.cutDone g) := by
  have charged := h.dropOldest.addWear g.cutLength
  exact charged.settleCut g fun l => charged.cutTab l _

theorem cutAbort (h : Moves s t) (g : Grant) (n : Nat) : Moves s (t.cutAbort g n) := by
  have charged := h.dropOldest.addWear n
  exact charged.settleCut g fun l => charged.same (by simp [State.core])

theorem expire (h : Moves s t) (g : Grant) : Moves s (t.expire g) := by
  unfold State.expire
  refine raise (h.dropOldest.same ?_) _
  split <;> simp [State.core]

theorem releaseBoard (h : Moves s t) (l : Located) : Moves s (t.releaseBoard l) :=
  revoke (h.same (by simp [State.core])) _

theorem rejectPlaced (h : Moves s t) (l : Located) : Moves s (t.rejectPlaced l) := by
  have binned : Moves s (t.binned l) := h.same (by simp [State.core, State.binned])
  rw [State.rejectPlaced_eq]
  unfold State.raiseIfFull
  split
  · exact binned.raise _
  · exact binned

theorem openGuard (h : Moves s t) : Moves s t.openGuard := parkIfActive (stopSpindle (h.same (by rfl)))

theorem endWrite (h : Moves s t) (w : StoreWrite) (ok : Bool) : Moves s (t.endWrite w ok) := by
  unfold State.endWrite
  refine postIf ?_ _ _ _
  split
  · exact h.same rfl
  · exact raise (h.same (by rfl)) _

end Moves
end Sys2Proof.Machine

/-! O56, O57 and O58: the moves of the cell, the loop and the window keep what the part promises of the spindle, the
window and the hold set, and so does every command. -/

namespace Sys2Proof.Machine

open Sys2Proof

/-! ### Every change is made of moves -/

/-- The state that SET_LIMITS re-examines the bin capacity in: the other three limits are in force. -/
def State.withLimits (s : State) (hang speed feed : Nat) : State :=
  { s with scheduler := { s.scheduler with hangLimit := hang }, bit := { s.bit with feedOverride := feed } }.retarget
    s.spindle.recipeRpm speed

/-- The constants that a section replaces have spindle constants in range if the old ones have. -/
theorem Constants.spindle_of_replace {c d : Constants} {f : ConstantsSection} (replaced : c.replace f = some d)
    (inRange : c.spindle.inRange = true) : d.spindle.inRange = true := by
  cases f with
  | magazineType =>
      simp only [Constants.replace] at replaced
      split at replaced
      · split at replaced
        · cases replaced; exact inRange
        · cases replaced
      · cases replaced
  | spindle =>
      simp only [Constants.replace] at replaced
      split at replaced
      next ranges => cases replaced; exact ranges
      · cases replaced
  | cell =>
      simp only [Constants.replace] at replaced
      split at replaced
      · cases replaced; exact inRange
      · cases replaced
  | unnamed => cases replaced

namespace Moves

variable {s t : State}

theorem goToWork (h : Moves s t) (up : t.starting = false) : Moves s t.goToWork := by
  unfold State.goToWork
  refine h.work.start ?working ?up
  case working =>
    split
    · exact .inl rfl
    · exact .inr rfl
  case up => split <;> exact up

theorem issue (h : Moves s t) (c : Choice) (g : Grant) (atSpeed : t.spindle.state = .atSpeed)
    (room : t.scheduler.window.length < 2) : Moves s (t.issue c g) :=
  (h.grant g atSpeed room).same (by simp [State.core, State.issue])

theorem noRun (h : Moves s t) (n : Nat) : Moves s ((t.noRun n).setWait (some .noRoom)) := by
  unfold State.noRun
  split <;> exact h.same (by simp [State.core])

theorem mountBit (h : Moves s t) (serial wear : Nat) : Moves s (t.mountBit serial wear) := by
  have mounted : Moves s { t with bit := { t.bit with
      record := { t.bit.record with serial := serial, wear := wear }, worn := false } } := h.same rfl
  exact (mounted.endCondition .bitWorn).same (by simp [State.core, State.mountBit])

theorem armHoming (h : Moves s t) : Moves s t.armHoming := by
  unfold State.armHoming
  dsimp only
  split
  · exact withdraw (h.same (by rfl))
  · exact h.same rfl

theorem loadMagazine (h : Moves s t) (tag typeNumber : Nat) (type : MagType) :
    Moves s (t.loadMagazine tag typeNumber type) := by
  unfold State.loadMagazine
  dsimp only
  split <;> exact h.same (by simp [State.core])

end Moves

/-- The rule of a command is made of moves, that of SET_LIMITS apart. -/
theorem Changes.movesOrLimits {s u : State} {i : Instr} (change : Changes s i u) (up : s.starting = false) :
    Moves s u ∨ ∃ hang speed feed bin, u = s.putLimits hang speed feed bin := by
  have h : Moves s s := .refl
  cases change with
  | setLimits limit speed feed => exact .inr ⟨limit, speed, feed, _, rfl⟩
  | idle => exact .inl h
  | holdSet => exact .inl (h.holdMember _ _)
  | holdClear => exact .inl (h.holdMember _ _)
  | faultClear => exact .inl (h.clearLatch _)
  | recipeOpen | recipeBoard | recipeTab | recipeClose | recipeErase | resolveTabUncut
    | resolvePresent | registerRepair | gripped => exact .inl (h.same (by simp [State.core]))
  | panelResult | manifestRelease | storeSave | binFull | referenceLevel | guardCloses => exact .inl (h.same rfl)
  | bitChange => exact .inl (h.mountBit _ _)
  | encoderTransition => exact .inl (h.same (by simp [State.core, State.countTransition]))
  | bitSetup => exact .inl (h.same (by simp [State.core, State.setupBit]))
  | claimNext | claim => exact .inl (h.same (by simp [State.core, State.claimBoard]))
  | bindToBin | bindToSlot => exact .inl (h.same (by simp [State.core, State.bindBoard]))
  | noRoom n => exact .inl (h.noRun n)
  | insertBegin => exact .inl (h.same (by simp [State.core, State.openInsertion]))
  | magLoaded => exact .inl (h.loadMagazine _ _ _)
  | magUnload => exact .inl (h.same (by simp [State.core, State.unloadMagazine]))
  | homeBegin => exact .inl h.armHoming
  | moveBegin => exact .inl (h.same (by simp [State.core, State.beginMove]))
  | arrived => exact .inl (h.same (by simp [State.core, State.endMove]))
  | confirmed => exact .inl (h.same (by simp [State.core, State.endMove, State.confirm]))
  | panelStart => exact .inl (h.same (by simp [State.core, State.startPanel]))
  | panelAbort => exact .inl (h.abortPanel _ _)
  | resolveTabCut => exact .inl (h.cutTab _ _)
  | divert => exact .inl (h.divertBoard _)
  | spindleReset faulted => exact .inl (h.resetSpindle faulted up)
  | resolveAbsent => exact .inl (Moves.seatFailure (h.same (by simp [State.core])) _)
  | binEmptied => exact .inl h.emptyBin
  | cellStart => exact .inl (h.goToWork up)
  | cellResume => exact .inl (h.goToWork up)
  | cellPark => exact .inl h.enterPark
  | cellStop => exact .inl h.enterStandby
  | faultResponse => exact .inl (h.setResponse _ _ _ _)
  | constantsWrite c idle replaced => exact .inl (h.configure c idle (Constants.spindle_of_replace replaced))
  | nextCut c g atSpeed room => exact .inl (h.issue c g atSpeed room)
  | cutDone => exact .inl (h.cutDone _)
  | cutAbort => exact .inl (h.cutAbort _ _)
  | release => exact .inl (h.releaseBoard _)
  | rejectPlaced => exact .inl (h.rejectPlaced _)
  | insertEndAborted => exact .inl (h.drawBack _ _)
  | insertEndSeated => exact .inl (h.letGo _ _)
  | tachEdge => exact .inl (h.tachEdge _)
  | stallMeasurement => exact .inl (h.completeStall _)
  | controlPeriod => exact .inl h.controlPeriod
  | kickTimeout => exact .inl (h.enterFaulted _)
  | settle => exact .inl (h.enterFaulted _)
  | grantExpiry => exact .inl (h.expire _)
  | parkTimer => exact .inl h.enterPark
  | seatSettleTimeout => exact .inl (h.endWait fun _ _ _ h => h.doubt _)
  | encoderIllegal => exact .inl (h.illegal _ _)
  | illegalTransition => exact .inl (h.illegal _ _)
  | referenceEdge => exact .inl (Moves.completeHoming (h.same (by rfl)))
  | seatSensorEdge => exact .inl (Moves.seatEdge (h.same (by rfl)))
  | guardOpens => exact .inl h.openGuard
  | storeWriteEnd => exact .inl (h.endWrite _ _)

/-- SET_LIMITS too is made of moves once the other limits are in force. -/
theorem Changes.moves {s u : State} {i : Instr} (change : Changes s i u) (up : s.starting = false) :
    Moves s u ∨ ∃ hang speed feed, Moves (s.withLimits hang speed feed) u := by
  rcases change.movesOrLimits up with moves | ⟨hang, speed, feed, bin, rfl⟩
  · exact .inl moves
  · exact .inr ⟨hang, speed, feed, Moves.setCapacity .refl bin⟩

/-! ### The end of a change -/

theorem State.retarget_core {s t : State} (core : t.core = s.core) (rpm override : Nat) :
    (t.retarget rpm override).core = (s.retarget rpm override).core := by
  simp only [State.core, Prod.mk.injEq] at core
  obtain ⟨cell, spindle, window, constants, starting⟩ := core
  simp only [State.core, Prod.mk.injEq]
  refine ⟨by simpa using cell, ?_, by simpa using window, by simpa using constants, by simpa using starting⟩
  simp only [State.retarget, State.settleFor, State.loadSettle, spindle, constants]
  split
  · rfl
  · split <;> rfl

/-- At the end of a change only the loop may take another recipe rpm. -/
theorem commit_core (s u : State) :
    (commit s u).core = u.core ∨ ∃ rpm, (commit s u).core = (u.retarget rpm u.spindle.override).core := by
  have rest : (s.refreshWait (s.refreshFull u)).core = u.core := by simp [State.core]
  have told : (commit s u).core = (s.handOver (s.refreshWait (s.refreshFull u))).core := by simp [State.core, commit]
  rw [told]
  generalize s.refreshWait (s.refreshFull u) = v at rest
  unfold State.handOver
  split
  · exact .inl rest
  · split
    next r _ =>
      have spindle : v.spindle = u.spindle := by
        simp only [State.core, Prod.mk.injEq] at rest
        exact rest.2.1
      exact .inr ⟨r.header.rpm, by rw [spindle]; exact State.retarget_core rest _ _⟩
    · exact .inl rest

/-- Another rpm to go to leaves the loop turning or standing still, with its duty and reference. -/
theorem State.retarget_runs (s : State) (rpm override : Nat) :
    ∃ sp, s.retarget rpm override = { s with spindle := sp } ∧ Spindle.Runs s.constants.spindle s.spindle sp := by
  unfold State.retarget
  dsimp only
  split
  · exact ⟨_, rfl, rfl, fun _ => rfl, fun _ low => low, fun _ range => range⟩
  · cases state : s.spindle.state with
    | atSpeed | ramping =>
        refine ⟨_, rfl, ?_, fun _ => rfl, fun _ low => low, fun _ range => range⟩
        simp [state, SpindleState.turning]
    | stopped | kick | faulted =>
        refine ⟨_, rfl, ?_, fun _ => rfl, fun _ low => low, fun _ range => range⟩
        simp [state]

/-- A property of the core that every move keeps, and every rpm handed to the loop. -/
structure KeptByMoves (P : State → Prop) : Prop where
  core {s t} : P s → t.core = s.core → P t
  moves {s t} : P s → Moves s t → P t
  runs {s} (sp : Spindle) : P s → Spindle.Runs s.constants.spindle s.spindle sp → P { s with spindle := sp }

namespace KeptByMoves

variable {P : State → Prop} {s u t : State}

theorem retarget (kept : KeptByMoves P) (h : P s) (rpm override : Nat) : P (s.retarget rpm override) := by
  obtain ⟨sp, same, runs⟩ := s.retarget_runs rpm override
  rw [same]
  exact kept.runs sp h runs

theorem commit (kept : KeptByMoves P) (h : P u) (before : State) : P (commit before u) := by
  rcases commit_core before u with same | ⟨rpm, same⟩
  · exact kept.core h same
  · exact kept.core (kept.retarget h rpm _) same

theorem change (kept : KeptByMoves P) (h : P s) {i : Instr} (change : Changes s i u) (up : s.starting = false) : P u := by
  rcases change.moves up with moves | ⟨hang, speed, feed, moves⟩
  · exact kept.moves h moves
  · have limits : P (s.withLimits hang speed feed) :=
      kept.retarget (s := { s with scheduler := { s.scheduler with hangLimit := hang }
                                   bit := { s.bit with feedOverride := feed } }) (kept.core h rfl) _ _
    exact kept.moves limits moves

/-- Every step keeps such a property, if a cycle of the time base and the resets do. -/
theorem step (kept : KeptByMoves P) (tick : ∀ s, P s → P s.tick) (begins : ∀ s, P s → P s.beginReset)
    (completes : ∀ s lines, s.starting = true → P s → P (s.completeReset lines)) (soft : ∀ s, P s → P s.softReset)
    (h : P s) (steps : step s = .next t) : P t := by
  rcases step_cases steps with rfl | ⟨i, rest, ends⟩
  · exact tick s h
  · have before : P { s with pending := rest } := kept.core h rfl
    cases ends with
    | unchanged => exact before
    | port => exact kept.core before rfl
    | request p code r u own up change =>
        exact kept.core (kept.commit (kept.change before change up) { s with pending := rest }) rfl
    | event u up change => exact kept.commit (kept.change before change up) _
    | hardReset => exact begins _ before
    | completed lines which down => exact completes _ lines down before
    | softReset => exact kept.core (soft _ before) rfl

end KeptByMoves

end Sys2Proof.Machine

/-! O56, O57 and O58: every move, every reset and every cycle of the time base keep the relations of the spindle, of the
window and of the hold set. -/

namespace Sys2Proof.Machine

open Sys2Proof

/-! ### The spindle (O56) -/

theorem SpindleSafe.of_core {s t : State} (safe : SpindleSafe s) (core : t.core = s.core) : SpindleSafe t := by
  simp only [State.core, Prod.mk.injEq] at core
  obtain ⟨_, spindle, _, constants, _⟩ := core
  rw [SpindleSafe, spindle, constants]
  exact safe

theorem SpindleSafe.runs {s : State} (safe : SpindleSafe s) {sp : Spindle}
    (runs : Spindle.Runs s.constants.spindle s.spindle sp) : SpindleSafe { s with spindle := sp } := by
  obtain ⟨low, rest, range, inRange⟩ := safe
  refine ⟨runs.duty inRange low, fun standing => ?_, runs.reference inRange range, inRange⟩
  have stood := runs.turns.symm.trans standing
  exact (runs.rests stood).trans (rest stood)

theorem SpindleSafe.halts {s : State} (safe : SpindleSafe s) {sp : Spindle} (halts : s.spindle.Halts sp) :
    SpindleSafe { s with spindle := sp } := by
  obtain ⟨_, _, range, inRange⟩ := safe
  have duty : sp.duty = 0 := halts.duty
  exact ⟨by simp [duty], fun _ => duty, halts.reference ▸ range, inRange⟩

theorem SpindleSafe.moves {s t : State} (safe : SpindleSafe s) (moves : Moves s t) : SpindleSafe t := by
  induction moves with
  | refl => exact safe
  | same _ core ih => exact ih.of_core core
  | refault | holdMember | revoke | dropOldest => simpa [SpindleSafe, State.setFaults] using ‹SpindleSafe _›
  | grant _ g atSpeed room ih => exact ih
  | @bringToRest t _ st idle ih =>
      have stopped := t.broughtToRest_spindle st
      by_cases turning : t.spindle.state.turning = true
      · have halted := ih.halts (sp := (t.broughtToRest st).spindle) (by rw [stopped, if_pos turning]; exact ⟨rfl, rfl, rfl⟩)
        simpa [SpindleSafe] using halted
      · rw [SpindleStopped, if_neg turning] at stopped
        simpa [SpindleSafe, stopped] using ih
  | work _ ih => split <;> exact ih
  | @start t _ working up ih =>
      obtain ⟨low, rest, range, inRange⟩ := ih
      have kick := inRange
      simp only [SpindleConstants.inRange, Bool.and_eq_true, decide_eq_true_eq] at kick
      obtain ⟨_, _, _, kickDuty, _⟩ := kick
      unfold State.start
      split
      · exact ⟨kickDuty, fun standing => by simp [SpindleState.turning] at standing, range, inRange⟩
      · exact ⟨low, rest, range, inRange⟩
  | run _ sp runs rpm ih => exact ih.runs runs
  | halt _ sp halts rpm ih => simpa [SpindleSafe] using ih.halts halts
  | configure _ c idle inRange ih =>
      obtain ⟨low, rest, range, was⟩ := ih
      exact ⟨low, rest, range, inRange was⟩

theorem spindleSafe_kept : KeptByMoves SpindleSafe where
  core := SpindleSafe.of_core
  moves := SpindleSafe.moves
  runs _ safe := safe.runs

theorem KeptByMoves.raiseWorn {P : State → Prop} (kept : KeptByMoves P) {s : State} (safe : P s) : P s.raiseWorn := by
  unfold State.raiseWorn
  split
  · exact kept.moves safe (Moves.raise .refl _)
  · exact safe

/-- A cycle of the time base advances counts and timers, and nothing else of the core. -/
theorem State.tick_core (s : State) :
    (s.tick.spindle.state = s.spindle.state ∧ s.tick.spindle.duty = s.spindle.duty
        ∧ s.tick.spindle.reference = s.spindle.reference)
      ∧ s.tick.scheduler.window = s.scheduler.window
      ∧ (s.tick.cell.state = s.cell.state ∧ s.tick.cell.holds = s.cell.holds ∧ s.tick.cell.faults = s.cell.faults)
      ∧ s.tick.constants = s.constants ∧ s.tick.starting = s.starting := by
  unfold State.tick
  split <;> simp

theorem Store.constants_inRange {st : Store} (valid : st.constantsValid = true) :
    st.constants.contents.spindle.inRange = true := by
  simp only [Store.constantsValid, Constants.inRange, Bool.and_eq_true] at valid
  obtain ⟨_, ⟨_, spindle⟩, _⟩ := valid
  exact spindle

theorem Spindle.reset_low : Spindle.reset.duty ≤ 1023 := by decide

theorem Spindle.reset_range : 6000 ≤ Spindle.reset.reference ∧ Spindle.reset.reference ≤ 60000 := by decide

theorem Constants.builtIn_inRange : Constants.builtIn.spindle.inRange = true := by decide

/-- Settles O56, by the moves a command is made of. -/
theorem everyStepKeepsTheSpindleSafe : Obligations.EveryStepKeepsTheSpindleSafe := by
  intro s t safe steps
  refine spindleSafe_kept.step ?tick ?begins ?completes ?soft safe steps
  case tick =>
    intro s safe
    obtain ⟨⟨state, duty, reference⟩, _, _, constants, _⟩ := s.tick_core
    rw [SpindleSafe, state, duty, reference, constants]
    exact safe
  case begins =>
    intro s _
    exact ⟨Spindle.reset_low, fun _ => rfl, Spindle.reset_range, Constants.builtIn_inRange⟩
  case completes =>
    rintro s lines _ ⟨low, rest, range, _⟩
    refine spindleSafe_kept.raiseWorn ⟨low, rest, range, ?_⟩
    dsimp only [State.completeReset, State.post, State.modifyPort, State.mapPorts, State.defaultLimits]
    split
    next valid => exact Store.constants_inRange valid
    · decide
  case soft =>
    rintro s ⟨_, _, _, inRange⟩
    exact spindleSafe_kept.raiseWorn ⟨Spindle.reset_low, fun _ => rfl, Spindle.reset_range, inRange⟩

/-! ### The window (O57) -/

theorem WindowSafe.of_core {s t : State} (safe : WindowSafe s) (core : t.core = s.core) : WindowSafe t := by
  simp only [State.core, Prod.mk.injEq] at core
  obtain ⟨cell, spindle, window, _, starting⟩ := core
  rw [WindowSafe, State.working, spindle, window, cell, starting]
  exact safe

/-- With the loop at rest and no LIVE grant, the cell may be in any state. -/
theorem WindowSafe.of_rest {s : State} (room : s.scheduler.window.length ≤ 2) (rest : s.spindle.state.turning = false)
    (dead : ∀ g ∈ s.scheduler.window, g.live = false) : WindowSafe s :=
  ⟨room, fun _ => rest, fun _ => dead⟩

theorem WindowSafe.runs {s : State} (safe : WindowSafe s) {sp : Spindle} (turns : sp.state.turning = s.spindle.state.turning) :
    WindowSafe { s with spindle := sp } := by
  obtain ⟨room, rest, dead⟩ := safe
  exact ⟨room, fun idle => turns.trans (rest idle), fun standing => dead (turns.symm.trans standing)⟩

/-- Another state of RUN and HOLD, other holds and other faults are no change for the window. -/
theorem WindowSafe.cell {s : State} (safe : WindowSafe s) {c : CellControl}
    (working : s.working → c.state = .run ∨ c.state = .hold) : WindowSafe { s with cell := c } := by
  obtain ⟨room, rest, dead⟩ := safe
  refine ⟨room, fun idle => rest ?_, dead⟩
  rcases idle with idle | starting
  · exact .inl fun works => idle (working works)
  · exact .inr starting

theorem WindowSafe.setHolds {s : State} (safe : WindowSafe s) (h : HoldSet) : WindowSafe (s.setHolds h) := by
  have kept := safe.cell (c := (s.setHolds h).cell) fun working => Moves.working_setHolds working h
  simpa [WindowSafe] using kept

theorem WindowSafe.revoke {s : State} (safe : WindowSafe s) (test : Grant → Bool) : WindowSafe (s.revoke test) := by
  obtain ⟨room, rest, dead⟩ := safe
  refine ⟨by simpa [State.revoke_scheduler] using room, by simpa using rest, fun standing => ?_⟩
  rw [State.revoke_scheduler]
  intro g member
  obtain ⟨old, was, rfl⟩ := List.mem_map.mp member
  have oldDead := dead (by simpa using standing) old was
  split <;> simp [oldDead]

/-- With every grant revoked and the loop at rest, the window is safe. -/
theorem WindowSafe.of_revokeAll {s t : State} (room : s.scheduler.window.length ≤ 2)
    (revoked : t.scheduler = s.revokeAll.scheduler) (rest : t.spindle.state.turning = false) : WindowSafe t := by
  rw [State.revokeAll_scheduler] at revoked
  refine .of_rest (by simpa [revoked] using room) rest fun g member => ?_
  rw [revoked] at member
  obtain ⟨_, _, rfl⟩ := List.mem_map.mp member
  rfl

theorem Moves.stopped_rests {s t : State} (stopped : SpindleStopped s t) : t.spindle.state.turning = false := by
  rw [stopped]
  split
  · rfl
  next rests => simpa using rests

theorem WindowSafe.moves {s t : State} (safe : WindowSafe s) (moves : Moves s t) : WindowSafe t := by
  induction moves with
  | refl => exact safe
  | same _ core ih => exact ih.of_core core
  | @refault t _ faults last ih =>
      exact WindowSafe.setHolds (s := t.setFaults faults last) (ih.cell fun working => working) _
  | holdMember _ p v ih => exact ih.setHolds _
  | @bringToRest t _ st idle ih =>
      obtain ⟨room, _, _⟩ := ih
      obtain ⟨revoked, _⟩ := t.broughtToRest_window st
      exact .of_revokeAll room (revoked.trans t.revokeAll_scheduler.symm)
        (Moves.stopped_rests (t.broughtToRest_spindle st))
  | revoke _ test ih => exact ih.revoke test
  | dropOldest _ ih =>
      obtain ⟨room, rest, dead⟩ := ih
      refine ⟨?_, rest, fun standing g member => dead standing g (List.mem_of_mem_tail member)⟩
      simp only [State.dropOldest, List.length_tail]
      omega
  | grant _ g atSpeed room ih =>
      obtain ⟨_, rest, _⟩ := ih
      refine ⟨by simpa using room, rest, fun standing => ?_⟩
      simp [atSpeed, SpindleState.turning] at standing
  | work _ ih =>
      split
      · exact ih.cell fun _ => .inl rfl
      · exact ih.cell fun _ => .inr rfl
  | @start t _ working up ih =>
      obtain ⟨room, rest, dead⟩ := ih
      unfold State.start
      split
      · refine ⟨room, fun idle => ?_, fun standing => by simp [SpindleState.turning] at standing⟩
        rcases idle with idle | starting
        · exact absurd working idle
        · exact absurd (up.symm.trans starting) (by decide)
      · exact ⟨room, rest, dead⟩
  | run _ sp runs rpm ih => exact ih.runs runs.turns
  | @halt t _ sp halts rpm ih =>
      obtain ⟨room, _, _⟩ := ih
      exact .of_revokeAll (s := { t with spindle := sp }) room rfl (by simpa using halts.turns)
  | configure _ c idle inRange ih =>
      obtain ⟨room, rest, dead⟩ := ih
      refine ⟨room, fun _ => rest (.inl ?_), dead⟩
      rcases idle with standby | unconfigured
      · simp [State.working, standby]
      · simp [State.working, unconfigured]

theorem windowSafe_kept : KeptByMoves WindowSafe where
  core := WindowSafe.of_core
  moves := WindowSafe.moves
  runs _ safe runs := safe.runs runs.turns

/-- Settles O57, by the moves a command is made of. -/
theorem everyStepKeepsTheWindowSafe : Obligations.EveryStepKeepsTheWindowSafe := by
  intro s t safe steps
  refine windowSafe_kept.step ?tick ?begins ?completes ?soft safe steps
  case tick =>
    intro s safe
    obtain ⟨⟨state, _, _⟩, window, ⟨cell, _, _⟩, _, starting⟩ := s.tick_core
    rw [WindowSafe, State.working, state, window, cell, starting]
    exact safe
  case begins =>
    intro s _
    exact .of_rest (Nat.zero_le _) rfl (by simp [State.beginReset, State.defaultLimits, State.emptyBlocks, State.mapPorts])
  case completes =>
    rintro s lines down ⟨room, rest, dead⟩
    have standing := rest (.inr down)
    exact windowSafe_kept.raiseWorn (.of_rest room standing (dead standing))
  case soft =>
    intro s _
    refine windowSafe_kept.raiseWorn (.of_rest (Nat.zero_le _) rfl ?_)
    simp [State.defaultLimits, State.emptyBlocks, State.mapPorts]

/-! ### The hold set (O58) -/

theorem HoldsSafe.of_cell {s t : State} (safe : HoldsSafe s) (state : t.cell.state = s.cell.state)
    (holds : t.cell.holds = s.cell.holds) (faults : t.cell.faults = s.cell.faults) : HoldsSafe t := by
  rw [HoldsSafe, State.faultHolds_of_faults faults, state, holds]
  exact safe

/-- Outside of RUN and HOLD only the member FAULT is held to the fault table. -/
theorem HoldsSafe.of_idle {s : State} (idle : s.cell.state ≠ .run ∧ s.cell.state ≠ .hold)
    (fault : s.cell.holds.fault = s.faultHolds) : HoldsSafe s :=
  ⟨fun run => absurd run idle.1, fun hold => absurd hold idle.2, fault⟩

/-- RUN follows an empty hold set and HOLD one that is not, also when the set changes. -/
theorem HoldsSafe.setHolds {s : State} {h : HoldSet} (run : s.cell.state = .run → s.cell.holds.isEmpty = true)
    (hold : s.cell.state = .hold → s.cell.holds.isEmpty = false) (fault : h.fault = s.faultHolds) :
    HoldsSafe (s.setHolds h) := by
  rw [HoldsSafe, State.setHolds_holds, State.faultHolds_of_faults (s.setHolds_faults h)]
  unfold State.setHolds
  split
  next same =>
    subst same
    exact ⟨run, hold, fault⟩
  · cases state : s.cell.state <;> cases empty : h.isEmpty <;> simp [State.enterRun, State.enterHold, state, fault]

theorem HoldsSafe.moves {s t : State} (safe : HoldsSafe s) (moves : Moves s t) : HoldsSafe t := by
  induction moves with
  | refl => exact safe
  | same _ core ih =>
      simp only [State.core, Prod.mk.injEq] at core
      obtain ⟨cell, _⟩ := core
      exact ih.of_cell (by rw [cell]) (by rw [cell]) (by rw [cell])
  | @refault t _ faults last ih =>
      obtain ⟨run, hold, _⟩ := ih
      exact HoldsSafe.setHolds (s := t.setFaults faults last) run hold rfl
  | holdMember _ p v ih =>
      obtain ⟨run, hold, fault⟩ := ih
      exact HoldsSafe.setHolds run hold (by cases p <;> exact fault)
  | @bringToRest t _ st idle ih =>
      obtain ⟨_, _, fault⟩ := ih
      refine .of_idle (by simpa using idle) ?_
      rw [State.faultHolds_of_faults (s := t) (by simp)]
      simpa using fault
  | revoke | dropOldest | grant | run => exact HoldsSafe.of_cell ‹HoldsSafe _› (by simp) (by simp) (by simp)
  | @work t _ ih =>
      obtain ⟨_, _, fault⟩ := ih
      split
      next empty => exact ⟨fun _ => empty, fun hold => by simp [State.enterRun] at hold, fault⟩
      next notEmpty => exact ⟨fun run => by simp [State.enterHold] at run, fun _ => by simpa [State.enterHold] using notEmpty, fault⟩
  | start _ working up ih => exact ih.of_cell (by simp) (by simp) (by simp)
  | halt _ sp halts rpm ih => exact ih.of_cell (by simp) (by simp) (by simp)
  | configure _ c idle inRange ih =>
      obtain ⟨_, _, fault⟩ := ih
      exact .of_idle ⟨by simp, by simp⟩ fault

theorem holdsSafe_kept : KeptByMoves HoldsSafe where
  core {s t} safe core := by
    simp only [State.core, Prod.mk.injEq] at core
    obtain ⟨cell, _⟩ := core
    exact safe.of_cell (by rw [cell]) (by rw [cell]) (by rw [cell])
  moves := HoldsSafe.moves
  runs _ safe _ := safe

/-- Without an active or latched kind FAULT is not in the hold set. -/
theorem State.faultHolds_of_quiet {s : State} (quiet : ∀ k, (s.fault k).active = false ∧ (s.fault k).latched = false) :
    s.faultHolds = false := by
  simp [State.faultHolds, FaultEntry.holds, quiet]

/-- After a reset the cell is in STANDBY or UNCONFIGURED. -/
theorem idle_ite {p : Prop} [Decidable p] {a b : CellState} (ha : a = .standby ∨ a = .unconfigured)
    (hb : b = .standby ∨ b = .unconfigured) : (if p then a else b) ≠ .run ∧ (if p then a else b) ≠ .hold := by
  split
  · rcases ha with rfl | rfl <;> decide
  · rcases hb with rfl | rfl <;> decide

/-- Settles O58, by the moves a command is made of. -/
theorem everyStepKeepsTheHoldsSafe : Obligations.EveryStepKeepsTheHoldsSafe := by
  intro s t safe steps
  refine holdsSafe_kept.step ?tick ?begins ?completes ?soft safe steps
  case tick =>
    intro s safe
    obtain ⟨_, _, ⟨state, holds, faults⟩, _⟩ := s.tick_core
    exact safe.of_cell state holds faults
  case begins =>
    intro s _
    have holds : s.beginReset.faultHolds = State.reset.faultHolds := State.faultHolds_of_faults rfl
    exact .of_idle ⟨by simp [State.beginReset], by simp [State.beginReset]⟩ (by rw [holds]; rfl)
  case completes =>
    rintro s lines down ⟨_, _, fault⟩
    refine holdsSafe_kept.raiseWorn (.of_idle (idle_ite (.inl rfl) (.inr rfl)) fault)
  case soft =>
    intro s _
    refine holdsSafe_kept.raiseWorn (.of_idle (idle_ite (.inr rfl) (.inl rfl)) ?_)
    refine (State.faultHolds_of_quiet fun k => ?_).symm
    simp [State.fault, State.mapPorts, State.defaultLimits, State.emptyBlocks]

end Sys2Proof.Machine

/-! O59: what a command can do to a record that is not FREE and to the recipe it names (R2, R10, R11, R16). -/

namespace Sys2Proof.Machine

open Sys2Proof

/-- A panel goes on: it keeps its recipe and its serial, and its state or at least no fixture. -/
def Panel.GoesOn (old new : Panel) : Prop :=
  new.recipe = old.recipe ∧ new.serial = old.serial ∧ (new.state = old.state ∨ new.state.isActive = false)

theorem Panel.GoesOn.refl (p : Panel) : p.GoesOn p := ⟨rfl, rfl, .inl rfl⟩

theorem Panel.GoesOn.trans {p q r : Panel} (first : p.GoesOn q) (second : q.GoesOn r) : p.GoesOn r := by
  obtain ⟨recipe, serial, state⟩ := first
  obtain ⟨recipe', serial', state'⟩ := second
  refine ⟨recipe'.trans recipe, serial'.trans serial, ?_⟩
  rcases state' with same | idle
  · rw [same]; exact state
  · exact .inr idle

/-- No panel is started, and the recipes stay. -/
def State.PanelsGoOn (s t : State) : Prop :=
  t.recipes = s.recipes ∧ ∀ (i : Fin 4) (q : Panel), t.panels.records[i] = some q →
    ∃ p, s.panels.records[i] = some p ∧ p.GoesOn q

/-- Panels that go on keep each other apart. -/
theorem State.PanelsGoOn.panelsSafe {s t : State} (goOn : s.PanelsGoOn t) (safe : PanelsSafe s) : PanelsSafe t := by
  obtain ⟨recipes, records⟩ := goOn
  intro i q here
  obtain ⟨p, was, recipe, serial, state⟩ := records i q here
  obtain ⟨valid, apart⟩ := safe i p was
  refine ⟨by simpa only [recipes, recipe] using valid, fun j q' there clash => ?_⟩
  obtain ⟨p', was', _, serial', state'⟩ := records j q' there
  refine apart j p' was' ?_
  rcases clash with same | ⟨active, same⟩
  · exact .inl (by rw [← serial, ← serial', same])
  · have old : q.state = p.state := state.resolve_right (by simp [active])
    have old' : q'.state = p'.state := state'.resolve_right (by simp [same, active])
    exact .inr ⟨old ▸ active, by rw [← old, ← old', same]⟩

theorem Panel.moveBoard_goesOn (p : Panel) (b : Nat) (st : BoardState) : p.GoesOn (p.moveBoard b st) := by
  cases st <;> exact .refl p

theorem Panel.settled_goesOn (p : Panel) : p.GoesOn { p with state := p.settled } := by
  refine ⟨rfl, rfl, ?_⟩
  cases state : p.state with
  | active f =>
      by_cases attached : p.boards.any (·.state.attached) = true
      · left; simp [Panel.settled, Panel.drained, state, attached]
      · right
        simp only [Panel.settled, Panel.drained, state, attached]
        cases p.boards.all (·.state.terminal) <;> rfl
  | draining =>
      right
      simp only [Panel.settled, Panel.drained, state]
      split <;> rfl
  | finished => left; simp [Panel.settled, Panel.drained, state]

namespace State.PanelsGoOn

variable {s t u : State}

theorem refl (s : State) : s.PanelsGoOn s := ⟨rfl, fun _ q record => ⟨q, record, .refl q⟩⟩

theorem trans (first : s.PanelsGoOn t) (second : t.PanelsGoOn u) : s.PanelsGoOn u := by
  obtain ⟨recipes, records⟩ := first
  obtain ⟨recipes', records'⟩ := second
  refine ⟨recipes'.trans recipes, fun i r record => ?_⟩
  obtain ⟨q, was, goes⟩ := records' i r record
  obtain ⟨p, first, on⟩ := records i q was
  exact ⟨p, first, on.trans goes⟩

theorem same (h : s.PanelsGoOn t) (tables : u.panels = t.panels ∧ u.recipes = t.recipes) : s.PanelsGoOn u := by
  obtain ⟨panels, recipes⟩ := tables
  rw [State.PanelsGoOn, panels, recipes]
  exact h

theorem modifyPanel (h : s.PanelsGoOn t) (i : Fin 4) {f : Panel → Panel} (goes : ∀ p : Panel, p.GoesOn (f p)) :
    s.PanelsGoOn (t.modifyPanel i f) := by
  refine h.trans ⟨by simp, fun j q record => ?_⟩
  rw [State.modifyPanel, State.setRecord_records] at record
  split at record
  next here =>
    subst here
    obtain ⟨p, was, rfl⟩ := Option.map_eq_some_iff.mp record
    exact ⟨p, was, goes p⟩
  · exact ⟨q, record, .refl q⟩

theorem reexamine (h : s.PanelsGoOn t) (i : Fin 4) : s.PanelsGoOn (t.reexamine i) := by
  refine h.trans ⟨by simp, fun j q record => ?_⟩
  rw [State.reexamine_records] at record
  split at record
  · obtain ⟨p, was, rfl⟩ := Option.map_eq_some_iff.mp record
    exact ⟨p, was, p.settled_goesOn⟩
  · exact ⟨q, record, .refl q⟩

theorem moveBoard (h : s.PanelsGoOn t) (i : Fin 4) (b : Nat) (st : BoardState) : s.PanelsGoOn (t.moveBoard i b st) :=
  reexamine (h.modifyPanel i fun p => p.moveBoard_goesOn b st) i

theorem modifyBoard (h : s.PanelsGoOn t) (i : Fin 4) (b : Nat) (f : Board → Board) : s.PanelsGoOn (t.modifyBoard i b f) :=
  h.modifyPanel i fun p => .refl p

theorem review (h : s.PanelsGoOn t) (i : Fin 4) (b : Nat) : s.PanelsGoOn (t.review i b) := by
  unfold State.review
  split
  · exact h
  · exact h.modifyBoard _ _ _

theorem setTab (h : s.PanelsGoOn t) (i : Fin 4) (b n : Nat) (st : TabState) : s.PanelsGoOn (t.setTab i b n st) :=
  (h.modifyBoard _ _ _).review _ _

theorem raise (h : s.PanelsGoOn t) (k : FaultKind) : s.PanelsGoOn (t.raise k) := h.same (by simp)

theorem dropBoard (h : s.PanelsGoOn t) (l : Located) : s.PanelsGoOn (t.dropBoard l) := by
  unfold State.dropBoard
  refine raise (moveBoard (h.same ?_) _ _ _) _
  split <;> simp

theorem cutTab (h : s.PanelsGoOn t) (l : Located) (n : Nat) : s.PanelsGoOn (t.cutTab l n) := by
  have cut := (h.modifyBoard l.record l.index (·.countCut (t.isHold l.panel l.index n))).setTab l.record l.index n .cut
  unfold State.cutTab
  dsimp only
  split
  · split
    · split
      · exact cut.moveBoard _ _ _
      · exact cut.dropBoard l
      · exact cut.dropBoard l
      all_goals exact cut
    · exact cut
  · split
    · exact (cut.moveBoard _ _ _).same ⟨rfl, rfl⟩
    · exact cut

theorem setDestination (h : s.PanelsGoOn t) (i : Fin 4) (b : Nat) (d : Option Destination) :
    s.PanelsGoOn (t.setDestination i b d) := h.modifyBoard _ _ _

theorem release (h : s.PanelsGoOn t) (l : Located) : s.PanelsGoOn (t.release l) :=
  setDestination (h.same (by simp)) _ _ _

theorem loosen (h : s.PanelsGoOn t) (l : Located) : s.PanelsGoOn (t.loosen l) :=
  same (u := t.loosen l) ((h.release l).moveBoard l.record l.index .loose) (by simp [State.loosen])

theorem stow (h : s.PanelsGoOn t) (l : Located) (j : Nat) : s.PanelsGoOn (t.stow l j) :=
  (moveBoard (h.same (by simp)) _ _ _).review _ _

theorem doubt (h : s.PanelsGoOn t) (l : Located) : s.PanelsGoOn (t.doubt l) := by
  have looked : s.PanelsGoOn
      ((t.modifySession fun m => m.restate (.reserved l.id) (.doubt l.id)).review l.record l.index) :=
    review (h.same (by simp)) _ _
  exact raise (looked.same (by simp)) _

theorem seatFailure (h : s.PanelsGoOn t) (k : Nat) : s.PanelsGoOn (t.seatFailure k) := by
  unfold State.seatFailure
  split
  · exact h
  · dsimp only
    split
    · exact h.same (by simp)
    · split
      · exact h.same (by simp)
      · split
        · unfold State.retire
          refine raise ?_ _
          split
          · exact loosen (h.same (by simp)) _
          · exact h.same (by simp)
        · exact h.same (by simp)

theorem verify (h : s.PanelsGoOn t) (l : Located) (k n : Nat) (c : Word24) : s.PanelsGoOn (t.verify l k n c) := by
  unfold State.verify
  split
  · exact h.doubt l
  · split
    · split
      · exact h.stow l k
      · split
        · exact ((h.release l).stow l _).raise _
        · exact h.doubt l
    · exact h.doubt l
    · exact h.doubt l

theorem endWait (h : s.PanelsGoOn t) {judge : State → Located → SettleWait → State}
    (judged : ∀ v l w, s.PanelsGoOn v → s.PanelsGoOn (judge v l w)) : s.PanelsGoOn (t.endWait judge) := by
  unfold State.endWait
  split
  · exact h
  · dsimp only
    split
    · exact judged _ _ _ (h.same ⟨rfl, rfl⟩)
    · exact h.same ⟨rfl, rfl⟩

theorem illegal (h : s.PanelsGoOn t) (a b : Bool) : s.PanelsGoOn (t.illegal a b) := by
  unfold State.illegal
  refine endWait (h.same ?_) fun _ _ _ h => h.doubt _
  dsimp only
  split <;> simp

theorem completeHoming (h : s.PanelsGoOn t) : s.PanelsGoOn t.completeHoming := by
  refine h.same ?_
  unfold State.completeHoming
  dsimp only
  split <;> simp

theorem seatEdge (h : s.PanelsGoOn t) : s.PanelsGoOn t.seatEdge := by
  unfold State.seatEdge
  split
  · dsimp only
    split
    · exact endWait (h.same (by simp)) fun _ _ _ h => h.verify _ _ _ _
    · exact h.same ⟨rfl, rfl⟩
  · exact h.raise _

theorem drawBack (h : s.PanelsGoOn t) (l : Located) (k : Nat) : s.PanelsGoOn (t.drawBack l k) := by
  have failed := (moveBoard (t := t.closeInsertion) (h.same (by simp)) l.record l.index .bound).seatFailure k
  unfold State.drawBack State.divertIfBound
  split
  · split
    · exact failed.loosen _
    · exact failed
  · exact failed

theorem letGo (h : s.PanelsGoOn t) (l : Located) (k : Nat) : s.PanelsGoOn (t.letGo l k) := by
  have free : s.PanelsGoOn ((t.closeInsertion.moveBoard l.record l.index .verifying).emptyClaim) :=
    same (moveBoard (t := t.closeInsertion) (h.same (by simp)) l.record l.index .verifying) (by simp)
  unfold State.letGo
  dsimp only
  split
  · exact free.doubt l
  · split
    · exact free.verify _ _ _ _
    · exact free.same ⟨rfl, rfl⟩

theorem abortPanel (h : s.PanelsGoOn t) (i : Fin 4) (panel : Panel) : s.PanelsGoOn (t.abortPanel i panel) := by
  have ended : (t.endClaimOf i).panels = t.panels ∧ (t.endClaimOf i).recipes = t.recipes := by
    unfold State.endClaimOf
    split
    · split <;> simp
    · exact ⟨rfl, rfl⟩
  unfold State.abortPanel
  refine reexamine (modifyPanel (f := Panel.abandon) (h.same ?_) i fun p => .refl p) i
  simpa using ended

theorem divertBoard (h : s.PanelsGoOn t) (l : Located) : s.PanelsGoOn (t.divertBoard l) := by
  have marked := h.modifyBoard l.record l.index fun board => { board with divert := true }
  unfold State.divertBoard
  dsimp only
  split
  · exact marked.loosen l
  · exact marked

theorem resolveAbsent (h : s.PanelsGoOn t) (l : Located) (k : Nat) : s.PanelsGoOn (t.resolveAbsent l k) :=
  seatFailure (review (moveBoard (h.same (by simp)) _ _ _) _ _) k

theorem settleCut (h : s.PanelsGoOn t) (g : Grant) {f : State → Located → State} (settled : ∀ l, s.PanelsGoOn (f t l)) :
    s.PanelsGoOn (t.settleCut g f) := by
  unfold State.settleCut
  split
  · exact h
  · split
    · exact h
    · exact settled _

theorem cutDone (h : s.PanelsGoOn t) (g : Grant) : s.PanelsGoOn (t.cutDone g) := by
  have charged : s.PanelsGoOn (t.dropOldest.addWear g.cutLength) := h.same (by simp)
  exact charged.settleCut g fun l => charged.cutTab l _

theorem cutAbort (h : s.PanelsGoOn t) (g : Grant) (n : Nat) : s.PanelsGoOn (t.cutAbort g n) := by
  have charged : s.PanelsGoOn (t.dropOldest.addWear n) := h.same (by simp)
  exact charged.settleCut g fun l => charged.setTab _ _ _ _

theorem expire (h : s.PanelsGoOn t) (g : Grant) : s.PanelsGoOn (t.expire g) := by
  have dropped : s.PanelsGoOn t.dropOldest := h.same (by simp)
  unfold State.expire
  refine raise (same (t := _) ?_ (by simp; exact ⟨rfl, rfl⟩)) _
  split
  · exact dropped.setTab _ _ _ _
  · exact dropped

theorem freeRecord (h : s.PanelsGoOn t) (i : Fin 4) : s.PanelsGoOn (t.freeRecord i) := by
  refine h.trans ⟨rfl, fun j q record => ⟨q, ?_, .refl q⟩⟩
  have freed : (t.freeRecord i).panels.records[j] = if j = i then none else t.panels.records[j] :=
    t.setRecord_records i j none
  rw [freed] at record
  split at record
  · cases record
  · exact record

end State.PanelsGoOn

end Sys2Proof.Machine

/-! What the rule of each command leaves alone, block by block (the frames of O55). -/

namespace Sys2Proof.Machine

open Sys2Proof

/-! ### What the shared operations leave of the counters of a block -/

@[simp] theorem State.dropOldest_counts (s : State) :
    s.dropOldest.scheduler.tag = s.scheduler.tag ∧ s.dropOldest.scheduler.hangLimit = s.scheduler.hangLimit :=
  by unfold State.dropOldest; (try dsimp only); (repeat' split) <;> simp

@[simp] theorem State.revoke_counts (s : State) (test : Grant → Bool) :
    (s.revoke test).scheduler.tag = s.scheduler.tag ∧ (s.revoke test).scheduler.hangLimit = s.scheduler.hangLimit :=
  by simp [State.revoke_scheduler]

@[simp] theorem State.stopSpindle_counts (s : State) :
    s.stopSpindle.scheduler.tag = s.scheduler.tag ∧ s.stopSpindle.scheduler.hangLimit = s.scheduler.hangLimit :=
  by unfold State.stopSpindle; (try dsimp only); (repeat' split) <;> simp [State.revokeAll]

@[simp] theorem State.enterPark_counts (s : State) :
    s.enterPark.scheduler.tag = s.scheduler.tag ∧ s.enterPark.scheduler.hangLimit = s.scheduler.hangLimit :=
  by unfold State.enterPark; (try dsimp only); (repeat' split) <;> simp [State.revokeAll]

@[simp] theorem State.enterStandby_counts (s : State) :
    s.enterStandby.scheduler.tag = s.scheduler.tag ∧ s.enterStandby.scheduler.hangLimit = s.scheduler.hangLimit :=
  by unfold State.enterStandby; (try dsimp only); (repeat' split) <;> simp [State.revokeAll]

@[simp] theorem State.parkIfActive_counts (s : State) :
    s.parkIfActive.scheduler.tag = s.scheduler.tag ∧ s.parkIfActive.scheduler.hangLimit = s.scheduler.hangLimit :=
  by unfold State.parkIfActive; (try dsimp only); (repeat' split) <;> simp

@[simp] theorem State.raise_counts (s : State) (k : FaultKind) :
    (s.raise k).scheduler.tag = s.scheduler.tag ∧ (s.raise k).scheduler.hangLimit = s.scheduler.hangLimit :=
  by unfold State.raise; (try dsimp only); (repeat' split) <;> simp

@[simp] theorem State.enterFaulted_counts (s : State) (c : SpindleCause) :
    (s.enterFaulted c).scheduler.tag = s.scheduler.tag ∧
    (s.enterFaulted c).scheduler.hangLimit = s.scheduler.hangLimit :=
  by unfold State.enterFaulted; (try dsimp only); (repeat' split) <;> simp [State.revokeAll]

@[simp] theorem State.completeMeasurement_counts (s : State) (n : Nat) (stall : Bool) :
    (s.completeMeasurement n stall).scheduler.tag = s.scheduler.tag ∧
    (s.completeMeasurement n stall).scheduler.hangLimit = s.scheduler.hangLimit :=
  by unfold State.completeMeasurement; (try dsimp only); (repeat' split) <;> simp

@[simp] theorem State.completeStall_counts (s : State) (n : Nat) :
    (s.completeStall n).scheduler.tag = s.scheduler.tag ∧
    (s.completeStall n).scheduler.hangLimit = s.scheduler.hangLimit :=
  by unfold State.completeStall; (try dsimp only); (repeat' split) <;> simp

@[simp] theorem State.advanceMeasurement_counts (s : State) (n : Nat) :
    (s.advanceMeasurement n).scheduler.tag = s.scheduler.tag ∧
    (s.advanceMeasurement n).scheduler.hangLimit = s.scheduler.hangLimit :=
  by unfold State.advanceMeasurement; (try dsimp only); (repeat' split) <;> simp

@[simp] theorem State.edgeInMeasurement_counts (s : State) :
    s.edgeInMeasurement.scheduler.tag = s.scheduler.tag ∧
    s.edgeInMeasurement.scheduler.hangLimit = s.scheduler.hangLimit :=
  by unfold State.edgeInMeasurement; (try dsimp only); (repeat' split) <;> simp

@[simp] theorem State.addWear_counts (s : State) (n : Nat) :
    (s.addWear n).scheduler.tag = s.scheduler.tag ∧ (s.addWear n).scheduler.hangLimit = s.scheduler.hangLimit :=
  by unfold State.addWear; (try dsimp only); (repeat' split) <;> simp

@[simp] theorem State.dropBoard_counts (s : State) (l : Located) :
    (s.dropBoard l).scheduler.tag = s.scheduler.tag ∧ (s.dropBoard l).scheduler.hangLimit = s.scheduler.hangLimit :=
  by unfold State.dropBoard; (try dsimp only); (repeat' split) <;> simp

@[simp] theorem State.cutTab_counts (s : State) (l : Located) (t : Nat) :
    (s.cutTab l t).scheduler.tag = s.scheduler.tag ∧ (s.cutTab l t).scheduler.hangLimit = s.scheduler.hangLimit :=
  by unfold State.cutTab; (try dsimp only); (repeat' split) <;> simp

@[simp] theorem State.modifySession_counts (s : State) (f : Session → Session) :
    (s.modifySession f).magazine.register = s.magazine.register ∧
    (s.modifySession f).magazine.binCount = s.magazine.binCount :=
  by unfold State.modifySession; (try dsimp only); (repeat' split) <;> simp

@[simp] theorem State.markFull_counts (s : State) (h : Nat) :
    (s.markFull h).magazine.register = s.magazine.register ∧ (s.markFull h).magazine.binCount = s.magazine.binCount :=
  by unfold State.markFull; (try dsimp only); (repeat' split) <;> simp

@[simp] theorem State.release_counts (s : State) (l : Located) :
    (s.release l).magazine.register = s.magazine.register ∧ (s.release l).magazine.binCount = s.magazine.binCount :=
  by unfold State.release; (try dsimp only); (repeat' split) <;> simp

@[simp] theorem State.loosen_counts (s : State) (l : Located) :
    (s.loosen l).magazine.register = s.magazine.register ∧ (s.loosen l).magazine.binCount = s.magazine.binCount :=
  by unfold State.loosen; (try dsimp only); (repeat' split) <;> simp

@[simp] theorem State.stow_counts (s : State) (l : Located) (j : Nat) :
    (s.stow l j).magazine.register = s.magazine.register ∧ (s.stow l j).magazine.binCount = s.magazine.binCount :=
  by unfold State.stow; (try dsimp only); (repeat' split) <;> simp

@[simp] theorem State.doubt_counts (s : State) (l : Located) :
    (s.doubt l).scheduler.tag = s.scheduler.tag ∧ (s.doubt l).scheduler.hangLimit = s.scheduler.hangLimit ∧
    (s.doubt l).magazine.register = s.magazine.register ∧ (s.doubt l).magazine.binCount = s.magazine.binCount :=
  by unfold State.doubt; (try dsimp only); (repeat' split) <;> simp

@[simp] theorem State.setRegister_counts (s : State) (r : List RegisterEntry) :
    (s.setRegister r).magazine.binCount = s.magazine.binCount :=
  by unfold State.setRegister; (try dsimp only); (repeat' split) <;> simp

@[simp] theorem State.modifyEntry_counts (s : State) (tag : Nat) (f : RegisterEntry → RegisterEntry) :
    (s.modifyEntry tag f).magazine.binCount = s.magazine.binCount :=
  by unfold State.modifyEntry; (try dsimp only); (repeat' split) <;> simp

@[simp] theorem State.condemn_counts (s : State) (tag : Nat) :
    (s.condemn tag).scheduler.tag = s.scheduler.tag ∧ (s.condemn tag).scheduler.hangLimit = s.scheduler.hangLimit ∧
    (s.condemn tag).magazine.binCount = s.magazine.binCount :=
  by unfold State.condemn; (try dsimp only); (repeat' split) <;> simp

@[simp] theorem State.retire_counts (s : State) (tag : Nat) (k : Nat) :
    (s.retire tag k).scheduler.tag = s.scheduler.tag ∧
    (s.retire tag k).scheduler.hangLimit = s.scheduler.hangLimit ∧
    (s.retire tag k).magazine.binCount = s.magazine.binCount :=
  by unfold State.retire; (try dsimp only); (repeat' split) <;> simp

@[simp] theorem State.seatFailure_counts (s : State) (k : Nat) :
    (s.seatFailure k).scheduler.tag = s.scheduler.tag ∧
    (s.seatFailure k).scheduler.hangLimit = s.scheduler.hangLimit ∧
    (s.seatFailure k).magazine.binCount = s.magazine.binCount :=
  by unfold State.seatFailure; (try dsimp only); (repeat' split) <;> simp

@[simp] theorem State.verify_counts (s : State) (l : Located) (k : Nat) (h : Nat) (c : Word24) :
    (s.verify l k h c).scheduler.tag = s.scheduler.tag ∧
    (s.verify l k h c).scheduler.hangLimit = s.scheduler.hangLimit ∧
    (s.verify l k h c).magazine.register = s.magazine.register ∧
    (s.verify l k h c).magazine.binCount = s.magazine.binCount :=
  by unfold State.verify; (try dsimp only); (repeat' split) <;> simp

@[simp] theorem State.refreshFull_counts (s : State) (b : State) :
    (b.refreshFull s).magazine.register = s.magazine.register ∧
    (b.refreshFull s).magazine.binCount = s.magazine.binCount :=
  by unfold State.refreshFull; (try dsimp only); (repeat' split) <;> simp

@[simp] theorem State.refreshWait_claim (s : State) (b : State) :
    (b.refreshWait s).gripper.claim = s.gripper.claim :=
  by unfold State.refreshWait; (try dsimp only); (repeat' split) <;> simp

@[simp] theorem commit_counts (s : State) (b : State) :
    (commit b s).magazine.register = s.magazine.register ∧ (commit b s).magazine.binCount = s.magazine.binCount ∧
    (commit b s).gripper.claim = s.gripper.claim :=
  by simp [commit]

/-! ### What the rules of the commands leave -/

@[simp] theorem State.kickEdge_frame (s : State) :
    s.kickEdge.recipes = s.recipes ∧ s.kickEdge.panels = s.panels ∧ s.kickEdge.scheduler = s.scheduler ∧
    s.kickEdge.gripper = s.gripper ∧ s.kickEdge.bit = s.bit ∧ s.kickEdge.magazine = s.magazine ∧
    s.kickEdge.elevator = s.elevator ∧ s.kickEdge.insertion = s.insertion ∧ s.kickEdge.cell = s.cell ∧
    s.kickEdge.ports = s.ports ∧ s.kickEdge.constants = s.constants ∧ s.kickEdge.store = s.store ∧
    s.kickEdge.lines = s.lines ∧ s.kickEdge.starting = s.starting ∧ s.kickEdge.pending = s.pending ∧
    s.kickEdge.freeIndex = s.freeIndex :=
  by unfold State.kickEdge; (try dsimp only); (repeat' split) <;> simp

@[simp] theorem State.tachEdge_frame (s : State) (n : Nat) :
    (s.tachEdge n).recipes = s.recipes ∧ (s.tachEdge n).panels = s.panels ∧ (s.tachEdge n).gripper = s.gripper ∧
    (s.tachEdge n).bit = s.bit ∧ (s.tachEdge n).magazine = s.magazine ∧ (s.tachEdge n).elevator = s.elevator ∧
    (s.tachEdge n).insertion = s.insertion ∧ (s.tachEdge n).constants = s.constants ∧
    (s.tachEdge n).lines = s.lines ∧ (s.tachEdge n).scheduler.tag = s.scheduler.tag ∧
    (s.tachEdge n).scheduler.hangLimit = s.scheduler.hangLimit ∧ (s.tachEdge n).starting = s.starting ∧
    (s.tachEdge n).pending = s.pending ∧ (s.tachEdge n).freeIndex = s.freeIndex :=
  by unfold State.tachEdge; (try dsimp only); (repeat' split) <;> simp

@[simp] theorem State.controlPeriod_frame (s : State) :
    s.controlPeriod.recipes = s.recipes ∧ s.controlPeriod.panels = s.panels ∧
    s.controlPeriod.scheduler = s.scheduler ∧ s.controlPeriod.gripper = s.gripper ∧ s.controlPeriod.bit = s.bit ∧
    s.controlPeriod.magazine = s.magazine ∧ s.controlPeriod.elevator = s.elevator ∧
    s.controlPeriod.insertion = s.insertion ∧ s.controlPeriod.cell = s.cell ∧ s.controlPeriod.ports = s.ports ∧
    s.controlPeriod.constants = s.constants ∧ s.controlPeriod.store = s.store ∧ s.controlPeriod.lines = s.lines ∧
    s.controlPeriod.starting = s.starting ∧ s.controlPeriod.pending = s.pending ∧
    s.controlPeriod.freeIndex = s.freeIndex :=
  by unfold State.controlPeriod; (try dsimp only); (repeat' split) <;> simp

@[simp] theorem State.resetSpindle_frame (s : State) :
    s.resetSpindle.recipes = s.recipes ∧ s.resetSpindle.panels = s.panels ∧
    s.resetSpindle.scheduler = s.scheduler ∧ s.resetSpindle.gripper = s.gripper ∧ s.resetSpindle.bit = s.bit ∧
    s.resetSpindle.magazine = s.magazine ∧ s.resetSpindle.elevator = s.elevator ∧
    s.resetSpindle.insertion = s.insertion ∧ s.resetSpindle.ports = s.ports ∧
    s.resetSpindle.constants = s.constants ∧ s.resetSpindle.store = s.store ∧ s.resetSpindle.lines = s.lines ∧
    s.resetSpindle.starting = s.starting ∧ s.resetSpindle.pending = s.pending ∧
    s.resetSpindle.freeIndex = s.freeIndex :=
  by unfold State.resetSpindle; (try dsimp only); (repeat' split) <;> simp

@[simp] theorem State.setupBit_frame (s : State) (p : BitParams) :
    (s.setupBit p).recipes = s.recipes ∧ (s.setupBit p).panels = s.panels ∧
    (s.setupBit p).scheduler = s.scheduler ∧ (s.setupBit p).gripper = s.gripper ∧
    (s.setupBit p).spindle = s.spindle ∧ (s.setupBit p).magazine = s.magazine ∧
    (s.setupBit p).elevator = s.elevator ∧ (s.setupBit p).insertion = s.insertion ∧ (s.setupBit p).cell = s.cell ∧
    (s.setupBit p).ports = s.ports ∧ (s.setupBit p).constants = s.constants ∧ (s.setupBit p).lines = s.lines ∧
    (s.setupBit p).starting = s.starting ∧ (s.setupBit p).pending = s.pending ∧
    (s.setupBit p).freeIndex = s.freeIndex :=
  by unfold State.setupBit; (try dsimp only); (repeat' split) <;> simp

@[simp] theorem State.emptyBin_frame (s : State) :
    s.emptyBin.recipes = s.recipes ∧ s.emptyBin.panels = s.panels ∧ s.emptyBin.scheduler = s.scheduler ∧
    s.emptyBin.gripper = s.gripper ∧ s.emptyBin.bit = s.bit ∧ s.emptyBin.spindle = s.spindle ∧
    s.emptyBin.elevator = s.elevator ∧ s.emptyBin.insertion = s.insertion ∧ s.emptyBin.ports = s.ports ∧
    s.emptyBin.constants = s.constants ∧ s.emptyBin.store = s.store ∧ s.emptyBin.lines = s.lines ∧
    s.emptyBin.magazine.register = s.magazine.register ∧ s.emptyBin.starting = s.starting ∧
    s.emptyBin.pending = s.pending ∧ s.emptyBin.freeIndex = s.freeIndex :=
  by unfold State.emptyBin; (try dsimp only); (repeat' split) <;> simp

@[simp] theorem State.setResponse_frame (s : State) (k : FaultKind) (on : Bool) (act : FaultAction) (keep : Bool) :
    (s.setResponse k on act keep).recipes = s.recipes ∧ (s.setResponse k on act keep).panels = s.panels ∧
    (s.setResponse k on act keep).gripper = s.gripper ∧ (s.setResponse k on act keep).bit = s.bit ∧
    (s.setResponse k on act keep).magazine = s.magazine ∧ (s.setResponse k on act keep).elevator = s.elevator ∧
    (s.setResponse k on act keep).insertion = s.insertion ∧ (s.setResponse k on act keep).constants = s.constants ∧
    (s.setResponse k on act keep).lines = s.lines ∧ (s.setResponse k on act keep).scheduler.tag = s.scheduler.tag ∧
    (s.setResponse k on act keep).scheduler.hangLimit = s.scheduler.hangLimit ∧
    (s.setResponse k on act keep).starting = s.starting ∧ (s.setResponse k on act keep).pending = s.pending ∧
    (s.setResponse k on act keep).freeIndex = s.freeIndex :=
  by unfold State.setResponse; (try dsimp only); (repeat' split) <;> simp

@[simp] theorem State.setCapacity_frame (s : State) (n : Nat) :
    (s.setCapacity n).recipes = s.recipes ∧ (s.setCapacity n).panels = s.panels ∧
    (s.setCapacity n).gripper = s.gripper ∧ (s.setCapacity n).bit = s.bit ∧
    (s.setCapacity n).elevator = s.elevator ∧ (s.setCapacity n).insertion = s.insertion ∧
    (s.setCapacity n).constants = s.constants ∧ (s.setCapacity n).lines = s.lines ∧
    (s.setCapacity n).scheduler.tag = s.scheduler.tag ∧
    (s.setCapacity n).scheduler.hangLimit = s.scheduler.hangLimit ∧
    (s.setCapacity n).magazine.register = s.magazine.register ∧
    (s.setCapacity n).magazine.binCount = s.magazine.binCount ∧ (s.setCapacity n).starting = s.starting ∧
    (s.setCapacity n).pending = s.pending ∧ (s.setCapacity n).freeIndex = s.freeIndex :=
  by unfold State.setCapacity; (try dsimp only); (repeat' split) <;> simp

@[simp] theorem State.putLimits_frame (s : State) (hang : Nat) (speed : Nat) (feed : Nat) (n : Nat) :
    (s.putLimits hang speed feed n).recipes = s.recipes ∧ (s.putLimits hang speed feed n).panels = s.panels ∧
    (s.putLimits hang speed feed n).gripper = s.gripper ∧ (s.putLimits hang speed feed n).elevator = s.elevator ∧
    (s.putLimits hang speed feed n).insertion = s.insertion ∧
    (s.putLimits hang speed feed n).constants = s.constants ∧ (s.putLimits hang speed feed n).lines = s.lines ∧
    (s.putLimits hang speed feed n).scheduler.tag = s.scheduler.tag ∧
    (s.putLimits hang speed feed n).magazine.register = s.magazine.register ∧
    (s.putLimits hang speed feed n).magazine.binCount = s.magazine.binCount ∧
    (s.putLimits hang speed feed n).starting = s.starting ∧ (s.putLimits hang speed feed n).pending = s.pending ∧
    (s.putLimits hang speed feed n).freeIndex = s.freeIndex :=
  by unfold State.putLimits; (try dsimp only); (repeat' split) <;> simp

@[simp] theorem State.openGuard_frame (s : State) :
    s.openGuard.recipes = s.recipes ∧ s.openGuard.panels = s.panels ∧ s.openGuard.gripper = s.gripper ∧
    s.openGuard.bit = s.bit ∧ s.openGuard.magazine = s.magazine ∧ s.openGuard.elevator = s.elevator ∧
    s.openGuard.insertion = s.insertion ∧ s.openGuard.constants = s.constants ∧
    s.openGuard.scheduler.tag = s.scheduler.tag ∧ s.openGuard.scheduler.hangLimit = s.scheduler.hangLimit ∧
    s.openGuard.starting = s.starting ∧ s.openGuard.pending = s.pending ∧ s.openGuard.freeIndex = s.freeIndex :=
  by unfold State.openGuard; (try dsimp only); (repeat' split) <;> simp

@[simp] theorem State.endWrite_frame (s : State) (w : StoreWrite) (ok : Bool) :
    (s.endWrite w ok).recipes = s.recipes ∧ (s.endWrite w ok).panels = s.panels ∧
    (s.endWrite w ok).gripper = s.gripper ∧ (s.endWrite w ok).bit = s.bit ∧
    (s.endWrite w ok).magazine = s.magazine ∧ (s.endWrite w ok).elevator = s.elevator ∧
    (s.endWrite w ok).insertion = s.insertion ∧ (s.endWrite w ok).constants = s.constants ∧
    (s.endWrite w ok).lines = s.lines ∧ (s.endWrite w ok).scheduler.tag = s.scheduler.tag ∧
    (s.endWrite w ok).scheduler.hangLimit = s.scheduler.hangLimit ∧ (s.endWrite w ok).starting = s.starting ∧
    (s.endWrite w ok).pending = s.pending ∧ (s.endWrite w ok).freeIndex = s.freeIndex :=
  by unfold State.endWrite; (try dsimp only); (repeat' split) <;> simp

@[simp] theorem State.issue_frame (s : State) (c : Choice) (g : Grant) :
    (s.issue c g).recipes = s.recipes ∧ (s.issue c g).gripper = s.gripper ∧ (s.issue c g).bit = s.bit ∧
    (s.issue c g).spindle = s.spindle ∧ (s.issue c g).magazine = s.magazine ∧ (s.issue c g).elevator = s.elevator ∧
    (s.issue c g).insertion = s.insertion ∧ (s.issue c g).cell = s.cell ∧ (s.issue c g).ports = s.ports ∧
    (s.issue c g).constants = s.constants ∧ (s.issue c g).store = s.store ∧ (s.issue c g).lines = s.lines ∧
    (s.issue c g).scheduler.hangLimit = s.scheduler.hangLimit ∧ (s.issue c g).starting = s.starting ∧
    (s.issue c g).pending = s.pending ∧ (s.issue c g).freeIndex = s.freeIndex :=
  by unfold State.issue; (try dsimp only); (repeat' split) <;> simp

@[simp] theorem State.cutDone_frame (s : State) (g : Grant) :
    (s.cutDone g).recipes = s.recipes ∧ (s.cutDone g).magazine = s.magazine ∧ (s.cutDone g).elevator = s.elevator ∧
    (s.cutDone g).insertion = s.insertion ∧ (s.cutDone g).constants = s.constants ∧ (s.cutDone g).lines = s.lines ∧
    (s.cutDone g).scheduler.tag = s.scheduler.tag ∧ (s.cutDone g).scheduler.hangLimit = s.scheduler.hangLimit ∧
    (s.cutDone g).starting = s.starting ∧ (s.cutDone g).pending = s.pending ∧ (s.cutDone g).freeIndex = s.freeIndex :=
  by unfold State.cutDone State.settleCut; (try dsimp only); (repeat' split) <;> simp

@[simp] theorem State.cutAbort_frame (s : State) (g : Grant) (n : Nat) :
    (s.cutAbort g n).recipes = s.recipes ∧ (s.cutAbort g n).gripper = s.gripper ∧
    (s.cutAbort g n).magazine = s.magazine ∧ (s.cutAbort g n).elevator = s.elevator ∧
    (s.cutAbort g n).insertion = s.insertion ∧ (s.cutAbort g n).constants = s.constants ∧
    (s.cutAbort g n).lines = s.lines ∧ (s.cutAbort g n).scheduler.tag = s.scheduler.tag ∧
    (s.cutAbort g n).scheduler.hangLimit = s.scheduler.hangLimit ∧ (s.cutAbort g n).starting = s.starting ∧
    (s.cutAbort g n).pending = s.pending ∧ (s.cutAbort g n).freeIndex = s.freeIndex :=
  by unfold State.cutAbort State.settleCut; (try dsimp only); (repeat' split) <;> simp

@[simp] theorem State.expire_frame (s : State) (g : Grant) :
    (s.expire g).recipes = s.recipes ∧ (s.expire g).gripper = s.gripper ∧ (s.expire g).bit = s.bit ∧
    (s.expire g).magazine = s.magazine ∧ (s.expire g).elevator = s.elevator ∧
    (s.expire g).insertion = s.insertion ∧ (s.expire g).constants = s.constants ∧ (s.expire g).lines = s.lines ∧
    (s.expire g).scheduler.tag = s.scheduler.tag ∧ (s.expire g).scheduler.hangLimit = s.scheduler.hangLimit ∧
    (s.expire g).starting = s.starting ∧ (s.expire g).pending = s.pending ∧ (s.expire g).freeIndex = s.freeIndex :=
  by unfold State.expire; (try dsimp only); (repeat' split) <;> simp

@[simp] theorem State.claimBoard_frame (s : State) (l : Located) :
    (s.claimBoard l).recipes = s.recipes ∧ (s.claimBoard l).scheduler = s.scheduler ∧
    (s.claimBoard l).bit = s.bit ∧ (s.claimBoard l).spindle = s.spindle ∧ (s.claimBoard l).magazine = s.magazine ∧
    (s.claimBoard l).elevator = s.elevator ∧ (s.claimBoard l).insertion = s.insertion ∧
    (s.claimBoard l).cell = s.cell ∧ (s.claimBoard l).constants = s.constants ∧ (s.claimBoard l).lines = s.lines ∧
    (s.claimBoard l).starting = s.starting ∧ (s.claimBoard l).pending = s.pending ∧
    (s.claimBoard l).freeIndex = s.freeIndex :=
  by unfold State.claimBoard; (try dsimp only); (repeat' split) <;> simp

@[simp] theorem State.releaseBoard_rest (s : State) (l : Located) :
    (s.releaseBoard l).recipes = s.recipes ∧ (s.releaseBoard l).bit = s.bit ∧
    (s.releaseBoard l).magazine = s.magazine ∧ (s.releaseBoard l).elevator = s.elevator ∧
    (s.releaseBoard l).insertion = s.insertion ∧ (s.releaseBoard l).constants = s.constants ∧
    (s.releaseBoard l).lines = s.lines ∧ (s.releaseBoard l).scheduler.tag = s.scheduler.tag ∧
    (s.releaseBoard l).scheduler.hangLimit = s.scheduler.hangLimit ∧ (s.releaseBoard l).starting = s.starting ∧
    (s.releaseBoard l).pending = s.pending ∧ (s.releaseBoard l).freeIndex = s.freeIndex :=
  by unfold State.releaseBoard; (try dsimp only); (repeat' split) <;> simp

@[simp] theorem State.bindBoard_frame (s : State) (l : Located) (d : Destination) :
    (s.bindBoard l d).recipes = s.recipes ∧ (s.bindBoard l d).scheduler = s.scheduler ∧
    (s.bindBoard l d).bit = s.bit ∧ (s.bindBoard l d).spindle = s.spindle ∧
    (s.bindBoard l d).magazine = s.magazine ∧ (s.bindBoard l d).elevator = s.elevator ∧
    (s.bindBoard l d).insertion = s.insertion ∧ (s.bindBoard l d).cell = s.cell ∧
    (s.bindBoard l d).constants = s.constants ∧ (s.bindBoard l d).lines = s.lines ∧
    (s.bindBoard l d).gripper.claim = s.gripper.claim ∧ (s.bindBoard l d).starting = s.starting ∧
    (s.bindBoard l d).pending = s.pending ∧ (s.bindBoard l d).freeIndex = s.freeIndex :=
  by unfold State.bindBoard; (try dsimp only); (repeat' split) <;> simp [State.setWait]

@[simp] theorem State.noRun_frame (s : State) (h : Nat) :
    (s.noRun h).recipes = s.recipes ∧ (s.noRun h).panels = s.panels ∧ (s.noRun h).scheduler = s.scheduler ∧
    (s.noRun h).gripper = s.gripper ∧ (s.noRun h).bit = s.bit ∧ (s.noRun h).spindle = s.spindle ∧
    (s.noRun h).elevator = s.elevator ∧ (s.noRun h).insertion = s.insertion ∧ (s.noRun h).cell = s.cell ∧
    (s.noRun h).constants = s.constants ∧ (s.noRun h).store = s.store ∧ (s.noRun h).lines = s.lines ∧
    (s.noRun h).magazine.register = s.magazine.register ∧ (s.noRun h).magazine.binCount = s.magazine.binCount ∧
    (s.noRun h).starting = s.starting ∧ (s.noRun h).pending = s.pending ∧ (s.noRun h).freeIndex = s.freeIndex :=
  by unfold State.noRun; (try dsimp only); (repeat' split) <;> simp

@[simp] theorem State.rejectPlaced_frame (s : State) (l : Located) :
    (s.rejectPlaced l).recipes = s.recipes ∧ (s.rejectPlaced l).bit = s.bit ∧
    (s.rejectPlaced l).elevator = s.elevator ∧ (s.rejectPlaced l).insertion = s.insertion ∧
    (s.rejectPlaced l).constants = s.constants ∧ (s.rejectPlaced l).lines = s.lines ∧
    (s.rejectPlaced l).magazine.register = s.magazine.register ∧
    (s.rejectPlaced l).scheduler.tag = s.scheduler.tag ∧
    (s.rejectPlaced l).scheduler.hangLimit = s.scheduler.hangLimit ∧ (s.rejectPlaced l).starting = s.starting ∧
    (s.rejectPlaced l).pending = s.pending ∧ (s.rejectPlaced l).freeIndex = s.freeIndex :=
  by unfold State.rejectPlaced State.raiseIfFull; (try dsimp only); (repeat' split) <;> simp

@[simp] theorem State.openInsertion_frame (s : State) (l : Located) (k : Nat) :
    (s.openInsertion l k).recipes = s.recipes ∧ (s.openInsertion l k).scheduler = s.scheduler ∧
    (s.openInsertion l k).gripper = s.gripper ∧ (s.openInsertion l k).bit = s.bit ∧
    (s.openInsertion l k).spindle = s.spindle ∧ (s.openInsertion l k).magazine = s.magazine ∧
    (s.openInsertion l k).cell = s.cell ∧ (s.openInsertion l k).constants = s.constants ∧
    (s.openInsertion l k).lines = s.lines ∧ (s.openInsertion l k).starting = s.starting ∧
    (s.openInsertion l k).pending = s.pending ∧ (s.openInsertion l k).freeIndex = s.freeIndex :=
  by unfold State.openInsertion; (try dsimp only); (repeat' split) <;> simp

@[simp] theorem State.divertIfBound_frame (s : State) (id : BoardId) :
    (s.divertIfBound id).recipes = s.recipes ∧ (s.divertIfBound id).scheduler = s.scheduler ∧
    (s.divertIfBound id).gripper = s.gripper ∧ (s.divertIfBound id).bit = s.bit ∧
    (s.divertIfBound id).spindle = s.spindle ∧ (s.divertIfBound id).elevator = s.elevator ∧
    (s.divertIfBound id).insertion = s.insertion ∧ (s.divertIfBound id).cell = s.cell ∧
    (s.divertIfBound id).constants = s.constants ∧ (s.divertIfBound id).lines = s.lines ∧
    (s.divertIfBound id).magazine.register = s.magazine.register ∧
    (s.divertIfBound id).magazine.binCount = s.magazine.binCount ∧ (s.divertIfBound id).starting = s.starting ∧
    (s.divertIfBound id).pending = s.pending ∧ (s.divertIfBound id).freeIndex = s.freeIndex :=
  by unfold State.divertIfBound; (try dsimp only); (repeat' split) <;> simp

@[simp] theorem State.drawBack_frame (s : State) (l : Located) (k : Nat) :
    (s.drawBack l k).recipes = s.recipes ∧ (s.drawBack l k).gripper = s.gripper ∧ (s.drawBack l k).bit = s.bit ∧
    (s.drawBack l k).elevator = s.elevator ∧ (s.drawBack l k).constants = s.constants ∧
    (s.drawBack l k).lines = s.lines ∧ (s.drawBack l k).magazine.binCount = s.magazine.binCount ∧
    (s.drawBack l k).scheduler.tag = s.scheduler.tag ∧
    (s.drawBack l k).scheduler.hangLimit = s.scheduler.hangLimit ∧ (s.drawBack l k).starting = s.starting ∧
    (s.drawBack l k).pending = s.pending ∧ (s.drawBack l k).freeIndex = s.freeIndex :=
  by unfold State.drawBack; (try dsimp only); (repeat' split) <;> simp

@[simp] theorem State.letGo_frame (s : State) (l : Located) (k : Nat) :
    (s.letGo l k).recipes = s.recipes ∧ (s.letGo l k).bit = s.bit ∧ (s.letGo l k).elevator = s.elevator ∧
    (s.letGo l k).constants = s.constants ∧ (s.letGo l k).lines = s.lines ∧
    (s.letGo l k).scheduler.tag = s.scheduler.tag ∧ (s.letGo l k).scheduler.hangLimit = s.scheduler.hangLimit ∧
    (s.letGo l k).magazine.register = s.magazine.register ∧ (s.letGo l k).magazine.binCount = s.magazine.binCount ∧
    (s.letGo l k).starting = s.starting ∧ (s.letGo l k).pending = s.pending ∧ (s.letGo l k).freeIndex = s.freeIndex :=
  by unfold State.letGo; (try dsimp only); (repeat' split) <;> simp

@[simp] theorem State.loadMagazine_frame (s : State) (tag : Nat) (number : Nat) (type : MagType) :
    (s.loadMagazine tag number type).recipes = s.recipes ∧ (s.loadMagazine tag number type).panels = s.panels ∧
    (s.loadMagazine tag number type).scheduler = s.scheduler ∧
    (s.loadMagazine tag number type).gripper = s.gripper ∧ (s.loadMagazine tag number type).bit = s.bit ∧
    (s.loadMagazine tag number type).spindle = s.spindle ∧ (s.loadMagazine tag number type).elevator = s.elevator ∧
    (s.loadMagazine tag number type).insertion = s.insertion ∧ (s.loadMagazine tag number type).cell = s.cell ∧
    (s.loadMagazine tag number type).constants = s.constants ∧ (s.loadMagazine tag number type).lines = s.lines ∧
    (s.loadMagazine tag number type).magazine.binCount = s.magazine.binCount ∧
    (s.loadMagazine tag number type).starting = s.starting ∧ (s.loadMagazine tag number type).pending = s.pending ∧
    (s.loadMagazine tag number type).freeIndex = s.freeIndex :=
  by unfold State.loadMagazine; (try dsimp only); (repeat' split) <;> simp

@[simp] theorem State.unloadMagazine_frame (s : State) (m : Session) :
    (s.unloadMagazine m).recipes = s.recipes ∧ (s.unloadMagazine m).panels = s.panels ∧
    (s.unloadMagazine m).scheduler = s.scheduler ∧ (s.unloadMagazine m).gripper = s.gripper ∧
    (s.unloadMagazine m).bit = s.bit ∧ (s.unloadMagazine m).spindle = s.spindle ∧
    (s.unloadMagazine m).elevator = s.elevator ∧ (s.unloadMagazine m).cell = s.cell ∧
    (s.unloadMagazine m).constants = s.constants ∧ (s.unloadMagazine m).lines = s.lines ∧
    (s.unloadMagazine m).magazine.binCount = s.magazine.binCount ∧ (s.unloadMagazine m).starting = s.starting ∧
    (s.unloadMagazine m).pending = s.pending ∧ (s.unloadMagazine m).freeIndex = s.freeIndex :=
  by unfold State.unloadMagazine; (try dsimp only); (repeat' split) <;> simp

@[simp] theorem State.armHoming_frame (s : State) :
    s.armHoming.recipes = s.recipes ∧ s.armHoming.panels = s.panels ∧ s.armHoming.scheduler = s.scheduler ∧
    s.armHoming.gripper = s.gripper ∧ s.armHoming.bit = s.bit ∧ s.armHoming.spindle = s.spindle ∧
    s.armHoming.magazine = s.magazine ∧ s.armHoming.cell = s.cell ∧ s.armHoming.constants = s.constants ∧
    s.armHoming.store = s.store ∧ s.armHoming.lines = s.lines ∧ s.armHoming.starting = s.starting ∧
    s.armHoming.pending = s.pending ∧ s.armHoming.freeIndex = s.freeIndex :=
  by unfold State.armHoming; (try dsimp only); (repeat' split) <;> simp

@[simp] theorem State.beginMove_frame (s : State) :
    s.beginMove.recipes = s.recipes ∧ s.beginMove.panels = s.panels ∧ s.beginMove.scheduler = s.scheduler ∧
    s.beginMove.gripper = s.gripper ∧ s.beginMove.bit = s.bit ∧ s.beginMove.spindle = s.spindle ∧
    s.beginMove.magazine = s.magazine ∧ s.beginMove.elevator = s.elevator ∧ s.beginMove.cell = s.cell ∧
    s.beginMove.constants = s.constants ∧ s.beginMove.store = s.store ∧ s.beginMove.lines = s.lines ∧
    s.beginMove.starting = s.starting ∧ s.beginMove.pending = s.pending ∧ s.beginMove.freeIndex = s.freeIndex :=
  by unfold State.beginMove; (try dsimp only); (repeat' split) <;> simp

@[simp] theorem State.endMove_frame (s : State) :
    s.endMove.recipes = s.recipes ∧ s.endMove.panels = s.panels ∧ s.endMove.scheduler = s.scheduler ∧
    s.endMove.gripper = s.gripper ∧ s.endMove.bit = s.bit ∧ s.endMove.spindle = s.spindle ∧
    s.endMove.magazine = s.magazine ∧ s.endMove.elevator = s.elevator ∧ s.endMove.cell = s.cell ∧
    s.endMove.constants = s.constants ∧ s.endMove.store = s.store ∧ s.endMove.lines = s.lines ∧
    s.endMove.starting = s.starting ∧ s.endMove.pending = s.pending ∧ s.endMove.freeIndex = s.freeIndex :=
  by unfold State.endMove; (try dsimp only); (repeat' split) <;> simp

@[simp] theorem State.confirm_frame (s : State) (k : Nat) :
    (s.confirm k).recipes = s.recipes ∧ (s.confirm k).panels = s.panels ∧ (s.confirm k).scheduler = s.scheduler ∧
    (s.confirm k).gripper = s.gripper ∧ (s.confirm k).bit = s.bit ∧ (s.confirm k).spindle = s.spindle ∧
    (s.confirm k).magazine = s.magazine ∧ (s.confirm k).elevator = s.elevator ∧ (s.confirm k).cell = s.cell ∧
    (s.confirm k).constants = s.constants ∧ (s.confirm k).store = s.store ∧ (s.confirm k).lines = s.lines ∧
    (s.confirm k).starting = s.starting ∧ (s.confirm k).pending = s.pending ∧ (s.confirm k).freeIndex = s.freeIndex :=
  by unfold State.confirm; (try dsimp only); (repeat' split) <;> simp

@[simp] theorem State.endWait_doubt_frame (s : State) :
    (s.endWait fun t l _ => t.doubt l).recipes = s.recipes ∧
    (s.endWait fun t l _ => t.doubt l).gripper = s.gripper ∧ (s.endWait fun t l _ => t.doubt l).bit = s.bit ∧
    (s.endWait fun t l _ => t.doubt l).elevator = s.elevator ∧
    (s.endWait fun t l _ => t.doubt l).constants = s.constants ∧
    (s.endWait fun t l _ => t.doubt l).lines = s.lines ∧
    (s.endWait fun t l _ => t.doubt l).scheduler.tag = s.scheduler.tag ∧
    (s.endWait fun t l _ => t.doubt l).scheduler.hangLimit = s.scheduler.hangLimit ∧
    (s.endWait fun t l _ => t.doubt l).magazine.register = s.magazine.register ∧
    (s.endWait fun t l _ => t.doubt l).magazine.binCount = s.magazine.binCount ∧
    (s.endWait fun t l _ => t.doubt l).starting = s.starting ∧
    (s.endWait fun t l _ => t.doubt l).pending = s.pending ∧
    (s.endWait fun t l _ => t.doubt l).freeIndex = s.freeIndex :=
  by unfold State.endWait; (try dsimp only); (repeat' split) <;> simp

@[simp] theorem State.endWait_verify_frame (s : State) (c : Word24) :
    (s.endWait fun t l w => t.verify l w.first w.height c).recipes = s.recipes ∧
    (s.endWait fun t l w => t.verify l w.first w.height c).gripper = s.gripper ∧
    (s.endWait fun t l w => t.verify l w.first w.height c).bit = s.bit ∧
    (s.endWait fun t l w => t.verify l w.first w.height c).elevator = s.elevator ∧
    (s.endWait fun t l w => t.verify l w.first w.height c).constants = s.constants ∧
    (s.endWait fun t l w => t.verify l w.first w.height c).lines = s.lines ∧
    (s.endWait fun t l w => t.verify l w.first w.height c).scheduler.tag = s.scheduler.tag ∧
    (s.endWait fun t l w => t.verify l w.first w.height c).scheduler.hangLimit = s.scheduler.hangLimit ∧
    (s.endWait fun t l w => t.verify l w.first w.height c).magazine.register = s.magazine.register ∧
    (s.endWait fun t l w => t.verify l w.first w.height c).magazine.binCount = s.magazine.binCount ∧
    (s.endWait fun t l w => t.verify l w.first w.height c).starting = s.starting ∧
    (s.endWait fun t l w => t.verify l w.first w.height c).pending = s.pending ∧
    (s.endWait fun t l w => t.verify l w.first w.height c).freeIndex = s.freeIndex :=
  by unfold State.endWait; (try dsimp only); (repeat' split) <;> simp

@[simp] theorem State.illegal_frame (s : State) (a : Bool) (b : Bool) :
    (s.illegal a b).recipes = s.recipes ∧ (s.illegal a b).gripper = s.gripper ∧ (s.illegal a b).bit = s.bit ∧
    (s.illegal a b).constants = s.constants ∧ (s.illegal a b).scheduler.tag = s.scheduler.tag ∧
    (s.illegal a b).scheduler.hangLimit = s.scheduler.hangLimit ∧
    (s.illegal a b).magazine.register = s.magazine.register ∧
    (s.illegal a b).magazine.binCount = s.magazine.binCount ∧ (s.illegal a b).starting = s.starting ∧
    (s.illegal a b).pending = s.pending ∧ (s.illegal a b).freeIndex = s.freeIndex :=
  by unfold State.illegal; (try dsimp only); (repeat' split) <;> simp

@[simp] theorem State.countTransition_frame (s : State) (a : Bool) (b : Bool) :
    (s.countTransition a b).recipes = s.recipes ∧ (s.countTransition a b).panels = s.panels ∧
    (s.countTransition a b).scheduler = s.scheduler ∧ (s.countTransition a b).gripper = s.gripper ∧
    (s.countTransition a b).bit = s.bit ∧ (s.countTransition a b).spindle = s.spindle ∧
    (s.countTransition a b).magazine = s.magazine ∧ (s.countTransition a b).cell = s.cell ∧
    (s.countTransition a b).constants = s.constants ∧ (s.countTransition a b).store = s.store ∧
    (s.countTransition a b).starting = s.starting ∧ (s.countTransition a b).pending = s.pending ∧
    (s.countTransition a b).freeIndex = s.freeIndex :=
  by unfold State.countTransition; (try dsimp only); (repeat' split) <;> simp

@[simp] theorem State.completeHoming_frame (s : State) :
    s.completeHoming.recipes = s.recipes ∧ s.completeHoming.panels = s.panels ∧
    s.completeHoming.scheduler = s.scheduler ∧ s.completeHoming.gripper = s.gripper ∧
    s.completeHoming.bit = s.bit ∧ s.completeHoming.spindle = s.spindle ∧ s.completeHoming.magazine = s.magazine ∧
    s.completeHoming.constants = s.constants ∧ s.completeHoming.store = s.store ∧
    s.completeHoming.lines = s.lines ∧ s.completeHoming.starting = s.starting ∧
    s.completeHoming.pending = s.pending ∧ s.completeHoming.freeIndex = s.freeIndex :=
  by unfold State.completeHoming; (try dsimp only); (repeat' split) <;> simp

@[simp] theorem State.seatEdge_frame (s : State) :
    s.seatEdge.recipes = s.recipes ∧ s.seatEdge.gripper = s.gripper ∧ s.seatEdge.bit = s.bit ∧
    s.seatEdge.constants = s.constants ∧ s.seatEdge.lines = s.lines ∧ s.seatEdge.scheduler.tag = s.scheduler.tag ∧
    s.seatEdge.scheduler.hangLimit = s.scheduler.hangLimit ∧ s.seatEdge.magazine.register = s.magazine.register ∧
    s.seatEdge.magazine.binCount = s.magazine.binCount ∧ s.seatEdge.starting = s.starting ∧
    s.seatEdge.pending = s.pending ∧ s.seatEdge.freeIndex = s.freeIndex :=
  by unfold State.seatEdge; (try dsimp only); (repeat' split) <;> simp

@[simp] theorem State.endClaimOf_frame (s : State) (i : Fin 4) :
    (s.endClaimOf i).recipes = s.recipes ∧ (s.endClaimOf i).panels = s.panels ∧
    (s.endClaimOf i).scheduler = s.scheduler ∧ (s.endClaimOf i).bit = s.bit ∧
    (s.endClaimOf i).spindle = s.spindle ∧ (s.endClaimOf i).magazine = s.magazine ∧
    (s.endClaimOf i).elevator = s.elevator ∧ (s.endClaimOf i).insertion = s.insertion ∧
    (s.endClaimOf i).cell = s.cell ∧ (s.endClaimOf i).constants = s.constants ∧ (s.endClaimOf i).store = s.store ∧
    (s.endClaimOf i).lines = s.lines ∧ (s.endClaimOf i).starting = s.starting ∧
    (s.endClaimOf i).pending = s.pending ∧ (s.endClaimOf i).freeIndex = s.freeIndex :=
  by unfold State.endClaimOf; (try dsimp only); (repeat' split) <;> simp

@[simp] theorem State.abortPanel_frame (s : State) (i : Fin 4) (p : Panel) :
    (s.abortPanel i p).recipes = s.recipes ∧ (s.abortPanel i p).bit = s.bit ∧
    (s.abortPanel i p).magazine = s.magazine ∧ (s.abortPanel i p).elevator = s.elevator ∧
    (s.abortPanel i p).insertion = s.insertion ∧ (s.abortPanel i p).cell = s.cell ∧
    (s.abortPanel i p).spindle = s.spindle ∧ (s.abortPanel i p).constants = s.constants ∧
    (s.abortPanel i p).lines = s.lines ∧ (s.abortPanel i p).scheduler.tag = s.scheduler.tag ∧
    (s.abortPanel i p).scheduler.hangLimit = s.scheduler.hangLimit ∧ (s.abortPanel i p).starting = s.starting ∧
    (s.abortPanel i p).pending = s.pending ∧ (s.abortPanel i p).freeIndex = s.freeIndex :=
  by unfold State.abortPanel; (try dsimp only); (repeat' split) <;> simp

@[simp] theorem State.divertBoard_frame (s : State) (l : Located) :
    (s.divertBoard l).recipes = s.recipes ∧ (s.divertBoard l).scheduler = s.scheduler ∧
    (s.divertBoard l).gripper = s.gripper ∧ (s.divertBoard l).bit = s.bit ∧ (s.divertBoard l).spindle = s.spindle ∧
    (s.divertBoard l).elevator = s.elevator ∧ (s.divertBoard l).insertion = s.insertion ∧
    (s.divertBoard l).cell = s.cell ∧ (s.divertBoard l).constants = s.constants ∧
    (s.divertBoard l).lines = s.lines ∧ (s.divertBoard l).magazine.register = s.magazine.register ∧
    (s.divertBoard l).magazine.binCount = s.magazine.binCount ∧ (s.divertBoard l).starting = s.starting ∧
    (s.divertBoard l).pending = s.pending ∧ (s.divertBoard l).freeIndex = s.freeIndex :=
  by unfold State.divertBoard; (try dsimp only); (repeat' split) <;> simp

@[simp] theorem State.resolveAbsent_frame (s : State) (l : Located) (k : Nat) :
    (s.resolveAbsent l k).recipes = s.recipes ∧ (s.resolveAbsent l k).gripper = s.gripper ∧
    (s.resolveAbsent l k).bit = s.bit ∧ (s.resolveAbsent l k).elevator = s.elevator ∧
    (s.resolveAbsent l k).insertion = s.insertion ∧ (s.resolveAbsent l k).constants = s.constants ∧
    (s.resolveAbsent l k).lines = s.lines ∧ (s.resolveAbsent l k).magazine.binCount = s.magazine.binCount ∧
    (s.resolveAbsent l k).scheduler.tag = s.scheduler.tag ∧
    (s.resolveAbsent l k).scheduler.hangLimit = s.scheduler.hangLimit ∧
    (s.resolveAbsent l k).starting = s.starting ∧ (s.resolveAbsent l k).pending = s.pending ∧
    (s.resolveAbsent l k).freeIndex = s.freeIndex :=
  by unfold State.resolveAbsent; (try dsimp only); (repeat' split) <;> simp

@[simp] theorem State.startPanel_frame (s : State) (i : Fin 4) (f : Fixture) (slot : Fin 4) (serial : Nat) (boards : List Board) :
    (s.startPanel i f slot serial boards).recipes = s.recipes ∧
    (s.startPanel i f slot serial boards).scheduler = s.scheduler ∧
    (s.startPanel i f slot serial boards).bit = s.bit ∧ (s.startPanel i f slot serial boards).spindle = s.spindle ∧
    (s.startPanel i f slot serial boards).magazine = s.magazine ∧
    (s.startPanel i f slot serial boards).elevator = s.elevator ∧
    (s.startPanel i f slot serial boards).insertion = s.insertion ∧
    (s.startPanel i f slot serial boards).cell = s.cell ∧
    (s.startPanel i f slot serial boards).constants = s.constants ∧
    (s.startPanel i f slot serial boards).store = s.store ∧ (s.startPanel i f slot serial boards).lines = s.lines ∧
    (s.startPanel i f slot serial boards).gripper.claim = s.gripper.claim ∧
    (s.startPanel i f slot serial boards).starting = s.starting ∧
    (s.startPanel i f slot serial boards).pending = s.pending ∧
    (s.startPanel i f slot serial boards).freeIndex = s.freeIndex :=
  by unfold State.startPanel; (try dsimp only); (repeat' split) <;> simp

@[simp] theorem State.freeRecord_frame (s : State) (i : Fin 4) :
    (s.freeRecord i).recipes = s.recipes ∧ (s.freeRecord i).scheduler = s.scheduler ∧
    (s.freeRecord i).gripper = s.gripper ∧ (s.freeRecord i).bit = s.bit ∧ (s.freeRecord i).spindle = s.spindle ∧
    (s.freeRecord i).magazine = s.magazine ∧ (s.freeRecord i).elevator = s.elevator ∧
    (s.freeRecord i).insertion = s.insertion ∧ (s.freeRecord i).cell = s.cell ∧ (s.freeRecord i).ports = s.ports ∧
    (s.freeRecord i).constants = s.constants ∧ (s.freeRecord i).store = s.store ∧
    (s.freeRecord i).lines = s.lines ∧ (s.freeRecord i).starting = s.starting ∧
    (s.freeRecord i).pending = s.pending ∧ (s.freeRecord i).freeIndex = s.freeIndex :=
  by unfold State.freeRecord; (try dsimp only); (repeat' split) <;> simp

end Sys2Proof.Machine

/-! O59: every step keeps the panel table and the recipes that its records name. -/

namespace Sys2Proof.Machine

open Sys2Proof

namespace State.PanelsGoOn

variable {s t : State}

theorem claimBoard (h : s.PanelsGoOn t) (l : Located) : s.PanelsGoOn (t.claimBoard l) :=
  same (moveBoard (t := t.unqueue l.id) (h.same (by simp)) l.record l.index .claimed) ⟨rfl, rfl⟩

theorem releaseBoard (h : s.PanelsGoOn t) (l : Located) : s.PanelsGoOn (t.releaseBoard l) :=
  same (moveBoard (t := t.emptyClaim) (h.same (by simp)) l.record l.index .hanging) (by simp [State.releaseBoard])

theorem bindBoard (h : s.PanelsGoOn t) (l : Located) (d : Destination) : s.PanelsGoOn (t.bindBoard l d) :=
  same ((h.setDestination l.record l.index (some d)).moveBoard l.record l.index .bound) ⟨rfl, rfl⟩

theorem rejectPlaced (h : s.PanelsGoOn t) (l : Located) : s.PanelsGoOn (t.rejectPlaced l) := by
  have binned : s.PanelsGoOn (t.binned l) := moveBoard (h.same (by simp)) _ _ _
  rw [State.rejectPlaced_eq]
  unfold State.raiseIfFull
  split
  · exact binned.raise _
  · exact binned

theorem openInsertion (h : s.PanelsGoOn t) (l : Located) (k : Nat) : s.PanelsGoOn (t.openInsertion l k) :=
  same (h.moveBoard l.record l.index .inserting) ⟨rfl, rfl⟩

theorem issue (h : s.PanelsGoOn t) (c : Choice) (g : Grant) : s.PanelsGoOn (t.issue c g) :=
  same (h.setTab c.record c.board c.tab .granted) ⟨rfl, rfl⟩

end State.PanelsGoOn

/-! ### Recipes that no record names, and a record that is started -/

/-- A slot that no record names may be replaced. -/
theorem PanelsSafe.setRecipe {s : State} (safe : PanelsSafe s) {k : Fin 4} (unused : s.SlotUnused k) (r : RecipeSlot) :
    PanelsSafe (s.setRecipe k r) := by
  intro i panel here
  obtain ⟨⟨recipe, valid⟩, apart⟩ := safe i panel here
  refine ⟨⟨recipe, ?_⟩, apart⟩
  rw [← valid]
  have other : panel.recipe ≠ k := unused i panel here
  simp [State.setRecipe, Vector.getElem_set, Fin.val_ne_of_ne other.symm]

theorem State.slotUnused_of_notInUse {s : State} {k : Fin 4} (notInUse : s.recipeInUse k = false) : s.SlotUnused k := by
  intro r panel record names
  exact absurd ((s.recipeInUse_iff k).mpr ⟨r, panel, record, names⟩) (by simp [notInUse])

/-- A test that finds no record fails on every record. -/
theorem State.findRecord_none {s : State} {test : Panel → Bool} (none : s.findRecord test = none) {i : Fin 4} {p : Panel}
    (record : s.panels.records[i] = some p) : test p = false := by
  have all := List.find?_eq_none.mp none i (mem_allRecords i)
  simpa [record] using all

/-- A panel of another serial on another fixture may be started from a VALID recipe. -/
theorem PanelsSafe.startPanel {s : State} (safe : PanelsSafe s) {n : Fin 4} {f : Fixture} {k : Fin 4} {id : Nat}
    {r : Recipe} (boards : List Board) (noFixture : s.recordOnFixture f = none) (noSerial : s.recordOfSerial id = none)
    (valid : s.recipes[k] = .valid r) : PanelsSafe (s.startPanel n f k id boards) := by
  have apart : ∀ (j : Fin 4) (p : Panel), s.panels.records[j] = some p → p.serial ≠ id ∧ p.state ≠ .active f := by
    intro j p record
    have serial := State.findRecord_none noSerial record
    have fixture := State.findRecord_none noFixture record
    exact ⟨by simpa using serial, by simpa using fixture⟩
  have records : ∀ j : Fin 4, (s.startPanel n f k id boards).panels.records[j] = if j = n then some
      { state := .active f, recipe := k, serial := id, boards := boards, stowed := 0, rejected := 0, lost := 0,
        abandoned := 0 } else s.panels.records[j] := by
    intro j
    rw [← State.setRecord_records]
    simp [State.startPanel]
  have recipes : (s.startPanel n f k id boards).recipes = s.recipes := by simp [State.startPanel]
  intro i panel here
  rw [records] at here
  split at here
  next first =>
    cases here
    refine ⟨⟨r, by simpa only [recipes] using valid⟩, fun j other there clash => ?_⟩
    rw [records] at there
    split at there
    next second => exact second.trans first.symm
    · obtain ⟨serial, fixture⟩ := apart j other there
      rcases clash with same | ⟨_, same⟩
      · exact absurd same serial
      · exact absurd same fixture
  next elsewhere =>
    obtain ⟨names, old⟩ := safe i panel here
    refine ⟨by simpa only [recipes] using names, fun j other there clash => ?_⟩
    rw [records] at there
    split at there
    · cases there
      obtain ⟨serial, fixture⟩ := apart i panel here
      rcases clash with same | ⟨_, same⟩
      · exact absurd same.symm serial
      · exact absurd same.symm fixture
    · exact old j other there clash

/-! ### Every command -/

theorem Changes.panelsSafe {s u : State} {i : Instr} (change : Changes s i u) (safe : PanelsSafe s) : PanelsSafe u := by
  have h := State.PanelsGoOn.refl s
  cases change with
  | recipeOpen k r unused => exact safe.setRecipe (State.slotUnused_of_notInUse unused) _
  | recipeErase k unused => exact safe.setRecipe (State.slotUnused_of_notInUse unused) _
  | recipeBoard k r r' opened => exact safe.setRecipe (State.slotUnused_of_opened safe opened) _
  | recipeTab k r r' opened => exact safe.setRecipe (State.slotUnused_of_opened safe opened) _
  | recipeClose k r r' opened => exact safe.setRecipe (State.slotUnused_of_opened safe opened) _
  | panelStart n f k id r boards noFixture noSerial valid => exact safe.startPanel boards noFixture noSerial valid
  | panelAbort => exact (h.abortPanel _ _).panelsSafe safe
  | panelResult => exact (h.freeRecord _).panelsSafe safe
  | resolveTabUncut => exact (h.setTab _ _ _ _).panelsSafe safe
  | resolveTabCut => exact (h.cutTab _ _).panelsSafe safe
  | divert => exact (h.divertBoard _).panelsSafe safe
  | resolvePresent => exact (h.stow _ _).panelsSafe safe
  | resolveAbsent => exact (h.resolveAbsent _ _).panelsSafe safe
  | nextCut => exact (h.issue _ _).panelsSafe safe
  | cutDone => exact (h.cutDone _).panelsSafe safe
  | cutAbort => exact (h.cutAbort _ _).panelsSafe safe
  | claimNext | claim => exact (h.claimBoard _).panelsSafe safe
  | gripped => exact (h.moveBoard _ _ _).panelsSafe safe
  | release => exact (h.releaseBoard _).panelsSafe safe
  | bindToBin => exact (h.bindBoard _ _).panelsSafe safe
  | bindToSlot => exact (State.PanelsGoOn.bindBoard (h.same (by simp)) _ _).panelsSafe safe
  | rejectPlaced => exact (h.rejectPlaced _).panelsSafe safe
  | insertBegin => exact (h.openInsertion _ _).panelsSafe safe
  | insertEndAborted => exact (h.drawBack _ _).panelsSafe safe
  | insertEndSeated => exact (h.letGo _ _).panelsSafe safe
  | grantExpiry => exact (h.expire _).panelsSafe safe
  | seatSettleTimeout => exact (h.endWait fun _ _ _ h => h.doubt _).panelsSafe safe
  | encoderIllegal | illegalTransition => exact (h.illegal _ _).panelsSafe safe
  | seatSensorEdge => exact (State.PanelsGoOn.seatEdge (h.same (by simp))).panelsSafe safe
  | idle => exact safe
  | manifestRelease | constantsWrite | storeSave | binFull | referenceLevel | guardCloses => exact safe
  | _ => exact (h.same (by simp)).panelsSafe safe

/-- After a reset every record is FREE. -/
theorem PanelsSafe.of_free {s : State} (free : s.panels.records = Vector.replicate 4 none) : PanelsSafe s := by
  intro i panel here
  rw [free] at here
  simp at here

theorem PanelsSafe.same {s t : State} (safe : PanelsSafe s) (tables : t.panels = s.panels ∧ t.recipes = s.recipes) :
    PanelsSafe t :=
  ((State.PanelsGoOn.refl s).same tables).panelsSafe safe

theorem Ends.panelsSafe {s t : State} {i : Instr} (ends : Ends s i t) (safe : PanelsSafe s) : PanelsSafe t := by
  cases ends with
  | unchanged => exact safe
  | port => exact safe
  | request p code r u own up change => exact (change.panelsSafe safe).same (by simp)
  | event u up change => exact (change.panelsSafe safe).same (by simp)
  | hardReset => exact .of_free rfl
  | completed lines which down => exact safe.same (by simp [State.completeReset])
  | softReset => exact .of_free (by simp [State.softReset, State.emptyBlocks])

/-- Settles O59, by what a command can do to a record and to the recipe it names. -/
theorem everyStepKeepsThePanelsSafe : Obligations.EveryStepKeepsThePanelsSafe := by
  intro s t safe steps
  rcases step_cases steps with rfl | ⟨i, rest, ends⟩
  · refine safe.same ?_
    unfold State.tick
    split <;> exact ⟨rfl, rfl⟩
  · exact ends.panelsSafe safe

end Sys2Proof.Machine

/-! O55: which command changes which block, read off the frames of the rules. -/

namespace Sys2Proof.Machine

open Sys2Proof

/-! ### A rule changes a block only where it is the block's own -/

/-- No change touches the queue of commands or the mark of the start-up read. -/
theorem Changes.queue_kept {s u : State} {i : Instr} (change : Changes s i u) :
    u.pending = s.pending ∧ u.freeIndex = s.freeIndex ∧ u.starting = s.starting := by
  cases change with
  | idle | manifestRelease | constantsWrite | storeSave | binFull | referenceLevel | guardCloses => exact ⟨rfl, rfl, rfl⟩
  | _ => simp

/-- The commands that may change `recipes`. -/
def OwnsRecipes (i : Instr) : Prop :=
  match i with
  | .recipeOpen .. | .recipeBoard .. | .recipeTab .. | .recipeClose .. | .recipeErase .. | .powerOn
    | .pinReset => True
  | _ => False

theorem Changes.recipes_kept {s u : State} {i : Instr} (change : Changes s i u) :
    u.recipes = s.recipes ∨ OwnsRecipes i := by
  cases change with
  | recipeOpen | recipeBoard | recipeTab | recipeClose | recipeErase => exact .inr trivial
  | idle | manifestRelease | constantsWrite | storeSave | binFull | referenceLevel | guardCloses => exact .inl rfl
  | _ => exact .inl (by simp)

/-- The commands that may change `constants`. -/
def OwnsConstants (i : Instr) : Prop :=
  match i with
  | .constantsWrite .. | .powerOn | .pinReset | .startUpReadEnd _ => True
  | _ => False

theorem Changes.constants_kept {s u : State} {i : Instr} (change : Changes s i u) :
    u.constants = s.constants ∨ OwnsConstants i := by
  cases change with
  | constantsWrite => exact .inr trivial
  | idle | manifestRelease | storeSave | binFull | referenceLevel | guardCloses => exact .inl rfl
  | _ => exact .inl (by simp)

/-- The commands that may change `lines`. -/
def OwnsLines (i : Instr) : Prop :=
  match i with
  | .encoderTransition .. | .illegalTransition | .referenceEdge | .seatSensorEdge | .guardOpens | .guardCloses
    | .startUpReadEnd _ => True
  | _ => False

theorem Changes.lines_kept {s u : State} {i : Instr} (change : Changes s i u) :
    u.lines = s.lines ∨ OwnsLines i := by
  cases change with
  | encoderIllegal | encoderTransition | illegalTransition | referenceLevel | referenceEdge | seatSensorEdge
    | guardOpens | guardCloses => exact .inr trivial
  | idle | manifestRelease | constantsWrite | storeSave | binFull => exact .inl rfl
  | _ => exact .inl (by simp)

/-- The commands that may change `bit`. -/
def OwnsBit (i : Instr) : Prop :=
  match i with
  | .cutDone .. | .cutAbort .. | .bitChange .. | .bitSetup .. | .setLimits .. => True
  | _ => False

theorem Changes.bit_kept {s u : State} {i : Instr} (change : Changes s i u) :
    u.bit = s.bit ∨ OwnsBit i := by
  cases change with
  | cutDone | cutAbort | bitChange | bitSetup | setLimits => exact .inr trivial
  | idle | manifestRelease | constantsWrite | storeSave | binFull | referenceLevel | guardCloses => exact .inl rfl
  | _ => exact .inl (by simp)

/-- The commands that may change `elevator`. -/
def OwnsElevator (i : Instr) : Prop :=
  match i with
  | .homeBegin _ | .insertBegin .. | .encoderTransition .. | .illegalTransition | .referenceEdge | .seatSensorEdge => True
  | _ => False

theorem Changes.elevator_kept {s u : State} {i : Instr} (change : Changes s i u) :
    u.elevator = s.elevator ∨ OwnsElevator i := by
  cases change with
  | homeBegin | insertBegin | encoderIllegal | encoderTransition | illegalTransition | referenceEdge
    | seatSensorEdge => exact .inr trivial
  | idle | manifestRelease | constantsWrite | storeSave | binFull | referenceLevel | guardCloses => exact .inl rfl
  | _ => exact .inl (by simp)

/-- The commands that may change `insertion`. -/
def OwnsInsertion (i : Instr) : Prop :=
  match i with
  | .homeBegin _ | .moveBegin _ | .arrived _ | .insertBegin .. | .insertEndAborted .. | .insertEndSeated ..
    | .magUnload _ | .encoderTransition .. | .illegalTransition | .referenceEdge | .seatSensorEdge | .seatSettleTimeout =>
      True
  | _ => False

theorem Changes.insertion_kept {s u : State} {i : Instr} (change : Changes s i u) :
    u.insertion = s.insertion ∨ OwnsInsertion i := by
  cases change with
  | homeBegin | moveBegin | arrived | confirmed | insertBegin | insertEndAborted | insertEndSeated
    | magUnload | encoderIllegal | encoderTransition | illegalTransition | referenceEdge | seatSensorEdge
    | seatSettleTimeout => exact .inr trivial
  | idle | manifestRelease | constantsWrite | storeSave | binFull | referenceLevel | guardCloses => exact .inl rfl
  | _ => exact .inl (by simp)

/-- The commands that may change `magazine.register`. -/
def OwnsRegister (i : Instr) : Prop :=
  match i with
  | .magLoaded .. | .magUnload _ | .registerRepair .. | .insertEndAborted .. | .resolveSlot .. => True
  | _ => False

theorem Changes.register_kept {s u : State} {i : Instr} (change : Changes s i u) :
    u.magazine.register = s.magazine.register ∨ OwnsRegister i := by
  cases change with
  | magLoaded | magUnload | registerRepair | insertEndAborted | resolvePresent | resolveAbsent => exact .inr trivial
  | idle | manifestRelease | constantsWrite | storeSave | binFull | referenceLevel | guardCloses => exact .inl rfl
  | _ => exact .inl (by simp)

/-- The commands that may change `scheduler.tag`. -/
def OwnsTag (i : Instr) : Prop :=
  match i with
  | .nextCut _ => True
  | _ => False

theorem Changes.tag_kept {s u : State} {i : Instr} (change : Changes s i u) :
    u.scheduler.tag = s.scheduler.tag ∨ OwnsTag i := by
  cases change with
  | nextCut => exact .inr trivial
  | idle | manifestRelease | constantsWrite | storeSave | binFull | referenceLevel | guardCloses => exact .inl rfl
  | _ => exact .inl (by simp)

/-- The commands that may change `scheduler.hangLimit`. -/
def OwnsHangLimit (i : Instr) : Prop :=
  match i with
  | .setLimits .. => True
  | _ => False

theorem Changes.hangLimit_kept {s u : State} {i : Instr} (change : Changes s i u) :
    u.scheduler.hangLimit = s.scheduler.hangLimit ∨ OwnsHangLimit i := by
  cases change with
  | setLimits => exact .inr trivial
  | idle | manifestRelease | constantsWrite | storeSave | binFull | referenceLevel | guardCloses => exact .inl rfl
  | _ => exact .inl (by simp)

/-- The commands that may change `gripper.claim`. -/
def OwnsClaim (i : Instr) : Prop :=
  match i with
  | .claimNext _ | .claim .. | .release .. | .rejectPlaced .. | .insertEndSeated .. | .cutDone .. | .resolveTabCut ..
    | .panelAbort .. => True
  | _ => False

theorem Changes.claim_kept {s u : State} {i : Instr} (change : Changes s i u) :
    u.gripper.claim = s.gripper.claim ∨ OwnsClaim i := by
  cases change with
  | claimNext | claim | release | rejectPlaced | insertEndSeated | cutDone | resolveTabCut | panelAbort => exact .inr trivial
  | idle | manifestRelease | constantsWrite | storeSave | binFull | referenceLevel | guardCloses => exact .inl rfl
  | noRoom n => exact .inl (by simp [State.setWait])
  | _ => exact .inl (by simp)

/-- The commands that may change `magazine.binCount`. -/
def OwnsBinCount (i : Instr) : Prop :=
  match i with
  | .rejectPlaced .. | .binEmptied _ => True
  | _ => False

theorem Changes.binCount_kept {s u : State} {i : Instr} (change : Changes s i u) :
    u.magazine.binCount = s.magazine.binCount ∨ OwnsBinCount i := by
  cases change with
  | rejectPlaced | binEmptied => exact .inr trivial
  | idle | manifestRelease | constantsWrite | storeSave | binFull | referenceLevel | guardCloses => exact .inl rfl
  | _ => exact .inl (by simp)

/-! ### Every command -/

/-- The commands that may set or clear the mark of the start-up read. -/
def OwnsStarting (i : Instr) : Prop :=
  match i with
  | .powerOn | .pinReset | .startUpReadEnd _ => True
  | _ => False

theorem Ends.inputsAndTables {s t : State} {i : Instr} (ends : Ends s i t) :
    t.pending = s.pending ∧ t.freeIndex = s.freeIndex ∧ (t.recipes ≠ s.recipes → OwnsRecipes i)
      ∧ (t.constants ≠ s.constants → OwnsConstants i) ∧ (t.lines ≠ s.lines → OwnsLines i)
      ∧ (t.starting ≠ s.starting → OwnsStarting i) := by
  cases ends with
  | unchanged =>
      exact ⟨rfl, rfl, fun new => absurd rfl new, fun new => absurd rfl new, fun new => absurd rfl new,
        fun new => absurd rfl new⟩
  | port =>
      exact ⟨rfl, rfl, fun new => absurd rfl new, fun new => absurd rfl new, fun new => absurd rfl new,
        fun new => absurd rfl new⟩
  | request p code r u own up change =>
      obtain ⟨pending, freeIndex, starting⟩ := change.queue_kept
      exact ⟨by simpa using pending, by simpa using freeIndex,
        fun new => change.recipes_kept.resolve_left (by simpa using new),
        fun new => change.constants_kept.resolve_left (by simpa using new),
        fun new => change.lines_kept.resolve_left (by simpa using new), fun new => absurd (by simpa using starting) new⟩
  | event u up change =>
      obtain ⟨pending, freeIndex, starting⟩ := change.queue_kept
      exact ⟨by simpa using pending, by simpa using freeIndex,
        fun new => change.recipes_kept.resolve_left (by simpa using new),
        fun new => change.constants_kept.resolve_left (by simpa using new),
        fun new => change.lines_kept.resolve_left (by simpa using new), fun new => absurd (by simpa using starting) new⟩
  | hardReset which =>
      rcases which with rfl | rfl <;>
        exact ⟨rfl, rfl, fun _ => trivial, fun _ => trivial, fun new => absurd rfl new, fun _ => trivial⟩
  | completed lines which down =>
      subst which
      exact ⟨by simp [State.completeReset], by simp [State.completeReset],
        fun new => absurd (by simp [State.completeReset]) new, fun _ => trivial, fun _ => trivial, fun _ => trivial⟩
  | softReset p code r which free =>
      subst which
      exact ⟨by simp [State.softReset], by simp [State.softReset], fun new => absurd (by simp [State.softReset]) new,
        fun new => absurd (by simp [State.softReset]) new, fun new => absurd (by simp [State.softReset]) new,
        fun new => absurd (by simp [State.softReset]) new⟩

/-- The blocks that the frames of O55 speak of one by one stay where the command is not theirs. -/
theorem Ends.blocks {s t : State} {i : Instr} (ends : Ends s i t) (notReset : i.resets = false) :
    (t.bit = s.bit ∧ t.elevator = s.elevator ∧ t.insertion = s.insertion ∧ t.magazine = s.magazine
        ∧ t.scheduler = s.scheduler ∧ t.gripper = s.gripper)
      ∨ ∃ u, Changes s i u ∧ t.bit = u.bit ∧ t.elevator = u.elevator ∧ t.insertion = u.insertion
        ∧ t.magazine.register = u.magazine.register ∧ t.magazine.binCount = u.magazine.binCount
        ∧ t.scheduler = u.scheduler ∧ t.gripper.claim = u.gripper.claim := by
  cases ends with
  | unchanged => exact .inl ⟨rfl, rfl, rfl, rfl, rfl, rfl⟩
  | port => exact .inl ⟨rfl, rfl, rfl, rfl, rfl, rfl⟩
  | request p code r u own up change => exact .inr ⟨u, change, by simp⟩
  | event u up change => exact .inr ⟨u, change, by simp⟩
  | hardReset which => rcases which with rfl | rfl <;> simp [Instr.resets] at notReset
  | completed lines which => subst which; simp [Instr.resets] at notReset
  | softReset p code r which => subst which; simp [Instr.resets] at notReset

/-- Settles O55, by the ways a command ends and the frames of the rules. -/
theorem blocksChangeByTheirOwnCommands : Obligations.BlocksChangeByTheirOwnCommands := by
  refine ⟨fun i s t runs => (exec_ends runs).inputsAndTables, fun i s t runs notReset _ => ?_⟩
  rcases (exec_ends runs).blocks notReset with ⟨bit, elevator, insertion, magazine, scheduler, gripper⟩
    | ⟨u, change, bit, elevator, insertion, register, binCount, scheduler, claim⟩
  · rw [bit, elevator, insertion, magazine, scheduler, gripper]
    exact ⟨fun new => absurd rfl new, fun new => absurd rfl new, fun new => absurd rfl new, fun new => absurd rfl new,
      fun new => absurd rfl new, fun new => absurd rfl new, fun new => absurd rfl new, fun new => absurd rfl new⟩
  · rw [bit, elevator, insertion, register, binCount, scheduler, claim]
    exact ⟨fun new => change.bit_kept.resolve_left new, fun new => change.elevator_kept.resolve_left new,
      fun new => change.insertion_kept.resolve_left new, fun new => change.register_kept.resolve_left new,
      fun new => change.tag_kept.resolve_left new, fun new => change.hangLimit_kept.resolve_left new,
      fun new => change.claim_kept.resolve_left new, fun new => change.binCount_kept.resolve_left new⟩

end Sys2Proof.Machine

/-! The frames of the stored BIT record (O60, BitSafe). -/

namespace Sys2Proof.Machine

open Sys2Proof

/-! ### What is stored of the bit changes only when a write begins -/

@[simp] theorem Store.setFlags_bit (st : Store) (r : RecordId) (f : SaveFlags) : (st.setFlags r f).bit = st.bit := by
  cases r <;> rfl

@[simp] theorem Store.setMarker_bitContents (st : Store) (r : RecordId) (b : Bool) :
    (st.setMarker r b).bit.contents = st.bit.contents := by
  cases r <;> rfl

@[simp] theorem State.setPending_bitContents (s : State) (r : RecordId) (e : Bool) :
    (s.setPending r e).store.bit.contents = s.store.bit.contents :=
  by unfold State.setPending; (try dsimp only); (repeat' split) <;> simp

@[simp] theorem State.queueSave_bitContents (s : State) (r : RecordId) :
    (s.queueSave r).store.bit.contents = s.store.bit.contents :=
  by unfold State.queueSave; (try dsimp only); (repeat' split) <;> simp

@[simp] theorem State.enterPark_bitContents (s : State) :
    s.enterPark.store.bit.contents = s.store.bit.contents :=
  by unfold State.enterPark; (try dsimp only); (repeat' split) <;> simp [State.revokeAll]

@[simp] theorem State.parkIfActive_bitContents (s : State) :
    s.parkIfActive.store.bit.contents = s.store.bit.contents :=
  by unfold State.parkIfActive; (try dsimp only); (repeat' split) <;> simp

@[simp] theorem State.raise_bitContents (s : State) (k : FaultKind) :
    (s.raise k).store.bit.contents = s.store.bit.contents :=
  by unfold State.raise; (try dsimp only); (repeat' split) <;> simp

@[simp] theorem State.enterFaulted_bitContents (s : State) (c : SpindleCause) :
    (s.enterFaulted c).store.bit.contents = s.store.bit.contents :=
  by unfold State.enterFaulted; (try dsimp only); (repeat' split) <;> simp

@[simp] theorem State.completeMeasurement_bitContents (s : State) (n : Nat) (stall : Bool) :
    (s.completeMeasurement n stall).store.bit.contents = s.store.bit.contents :=
  by unfold State.completeMeasurement; (try dsimp only); (repeat' split) <;> simp

@[simp] theorem State.completeStall_bitContents (s : State) (n : Nat) :
    (s.completeStall n).store.bit.contents = s.store.bit.contents :=
  by unfold State.completeStall; (try dsimp only); (repeat' split) <;> simp

@[simp] theorem State.advanceMeasurement_bitContents (s : State) (n : Nat) :
    (s.advanceMeasurement n).store.bit.contents = s.store.bit.contents :=
  by unfold State.advanceMeasurement; (try dsimp only); (repeat' split) <;> simp

@[simp] theorem State.edgeInMeasurement_bitContents (s : State) :
    s.edgeInMeasurement.store.bit.contents = s.store.bit.contents :=
  by unfold State.edgeInMeasurement; (try dsimp only); (repeat' split) <;> simp

@[simp] theorem State.addWear_bitContents (s : State) (n : Nat) :
    (s.addWear n).store.bit.contents = s.store.bit.contents :=
  by unfold State.addWear; (try dsimp only); (repeat' split) <;> simp

@[simp] theorem State.tachEdge_bitContents (s : State) (n : Nat) :
    (s.tachEdge n).store.bit.contents = s.store.bit.contents :=
  by unfold State.tachEdge; (try dsimp only); (repeat' split) <;> simp

@[simp] theorem State.reexamine_bitContents (s : State) (i : Fin 4) :
    (s.reexamine i).store.bit.contents = s.store.bit.contents :=
  by unfold State.reexamine; (try dsimp only); (repeat' split) <;> simp

@[simp] theorem State.moveBoard_bitContents (s : State) (i : Fin 4) (b : Nat) (st : BoardState) :
    (s.moveBoard i b st).store.bit.contents = s.store.bit.contents :=
  by unfold State.moveBoard; (try dsimp only); (repeat' split) <;> simp

@[simp] theorem State.dropBoard_bitContents (s : State) (l : Located) :
    (s.dropBoard l).store.bit.contents = s.store.bit.contents :=
  by unfold State.dropBoard; (try dsimp only); (repeat' split) <;> simp

@[simp] theorem State.cutTab_bitContents (s : State) (l : Located) (t : Nat) :
    (s.cutTab l t).store.bit.contents = s.store.bit.contents :=
  by unfold State.cutTab; (try dsimp only); (repeat' split) <;> simp

@[simp] theorem State.loosen_bitContents (s : State) (l : Located) :
    (s.loosen l).store.bit.contents = s.store.bit.contents :=
  by unfold State.loosen; (try dsimp only); (repeat' split) <;> simp

@[simp] theorem State.stow_bitContents (s : State) (l : Located) (j : Nat) :
    (s.stow l j).store.bit.contents = s.store.bit.contents :=
  by unfold State.stow; (try dsimp only); (repeat' split) <;> simp

@[simp] theorem State.doubt_bitContents (s : State) (l : Located) :
    (s.doubt l).store.bit.contents = s.store.bit.contents :=
  by unfold State.doubt; (try dsimp only); (repeat' split) <;> simp

@[simp] theorem State.setRegister_bitContents (s : State) (r : List RegisterEntry) :
    (s.setRegister r).store.bit.contents = s.store.bit.contents :=
  by unfold State.setRegister; (try dsimp only); (repeat' split) <;> simp

@[simp] theorem State.modifyEntry_bitContents (s : State) (tag : Nat) (f : RegisterEntry → RegisterEntry) :
    (s.modifyEntry tag f).store.bit.contents = s.store.bit.contents :=
  by unfold State.modifyEntry; (try dsimp only); (repeat' split) <;> simp

@[simp] theorem State.condemn_bitContents (s : State) (tag : Nat) :
    (s.condemn tag).store.bit.contents = s.store.bit.contents :=
  by unfold State.condemn; (try dsimp only); (repeat' split) <;> simp

@[simp] theorem State.retire_bitContents (s : State) (tag : Nat) (k : Nat) :
    (s.retire tag k).store.bit.contents = s.store.bit.contents :=
  by unfold State.retire; (try dsimp only); (repeat' split) <;> simp

@[simp] theorem State.seatFailure_bitContents (s : State) (k : Nat) :
    (s.seatFailure k).store.bit.contents = s.store.bit.contents :=
  by unfold State.seatFailure; (try dsimp only); (repeat' split) <;> simp

@[simp] theorem State.verify_bitContents (s : State) (l : Located) (k : Nat) (h : Nat) (c : Word24) :
    (s.verify l k h c).store.bit.contents = s.store.bit.contents :=
  by unfold State.verify; (try dsimp only); (repeat' split) <;> simp

@[simp] theorem State.mountBit_bitContents (s : State) (serial : Nat) (wear : Nat) :
    (s.mountBit serial wear).store.bit.contents = s.store.bit.contents :=
  by unfold State.mountBit; (try dsimp only); (repeat' split) <;> simp

@[simp] theorem State.setupBit_bitContents (s : State) (p : BitParams) :
    (s.setupBit p).store.bit.contents = s.store.bit.contents :=
  by unfold State.setupBit; (try dsimp only); (repeat' split) <;> simp

@[simp] theorem State.setResponse_bitContents (s : State) (k : FaultKind) (on : Bool) (act : FaultAction) (keep : Bool) :
    (s.setResponse k on act keep).store.bit.contents = s.store.bit.contents :=
  by unfold State.setResponse; (try dsimp only); (repeat' split) <;> simp

@[simp] theorem State.setCapacity_bitContents (s : State) (n : Nat) :
    (s.setCapacity n).store.bit.contents = s.store.bit.contents :=
  by unfold State.setCapacity; (try dsimp only); (repeat' split) <;> simp

@[simp] theorem State.putLimits_bitContents (s : State) (hang : Nat) (speed : Nat) (feed : Nat) (n : Nat) :
    (s.putLimits hang speed feed n).store.bit.contents = s.store.bit.contents :=
  by unfold State.putLimits; (try dsimp only); (repeat' split) <;> simp

@[simp] theorem State.openGuard_bitContents (s : State) :
    s.openGuard.store.bit.contents = s.store.bit.contents :=
  by unfold State.openGuard; (try dsimp only); (repeat' split) <;> simp

@[simp] theorem State.endWrite_bitContents (s : State) (w : StoreWrite) (ok : Bool) :
    (s.endWrite w ok).store.bit.contents = s.store.bit.contents :=
  by unfold State.endWrite; (try dsimp only); (repeat' split) <;> simp

@[simp] theorem State.cutDone_bitContents (s : State) (g : Grant) :
    (s.cutDone g).store.bit.contents = s.store.bit.contents :=
  by unfold State.cutDone State.settleCut; (try dsimp only); (repeat' split) <;> simp

@[simp] theorem State.cutAbort_bitContents (s : State) (g : Grant) (n : Nat) :
    (s.cutAbort g n).store.bit.contents = s.store.bit.contents :=
  by unfold State.cutAbort State.settleCut; (try dsimp only); (repeat' split) <;> simp

@[simp] theorem State.expire_bitContents (s : State) (g : Grant) :
    (s.expire g).store.bit.contents = s.store.bit.contents :=
  by unfold State.expire; (try dsimp only); (repeat' split) <;> simp

@[simp] theorem State.claimBoard_bitContents (s : State) (l : Located) :
    (s.claimBoard l).store.bit.contents = s.store.bit.contents :=
  by unfold State.claimBoard; (try dsimp only); (repeat' split) <;> simp

@[simp] theorem State.releaseBoard_bitContents (s : State) (l : Located) :
    (s.releaseBoard l).store.bit.contents = s.store.bit.contents :=
  by unfold State.releaseBoard; (try dsimp only); (repeat' split) <;> simp

@[simp] theorem State.bindBoard_bitContents (s : State) (l : Located) (d : Destination) :
    (s.bindBoard l d).store.bit.contents = s.store.bit.contents :=
  by unfold State.bindBoard; (try dsimp only); (repeat' split) <;> simp

@[simp] theorem State.rejectPlaced_bitContents (s : State) (l : Located) :
    (s.rejectPlaced l).store.bit.contents = s.store.bit.contents :=
  by unfold State.rejectPlaced State.raiseIfFull; (try dsimp only); (repeat' split) <;> simp

@[simp] theorem State.openInsertion_bitContents (s : State) (l : Located) (k : Nat) :
    (s.openInsertion l k).store.bit.contents = s.store.bit.contents :=
  by unfold State.openInsertion; (try dsimp only); (repeat' split) <;> simp

@[simp] theorem State.divertIfBound_bitContents (s : State) (id : BoardId) :
    (s.divertIfBound id).store.bit.contents = s.store.bit.contents :=
  by unfold State.divertIfBound; (try dsimp only); (repeat' split) <;> simp

@[simp] theorem State.drawBack_bitContents (s : State) (l : Located) (k : Nat) :
    (s.drawBack l k).store.bit.contents = s.store.bit.contents :=
  by unfold State.drawBack; (try dsimp only); (repeat' split) <;> simp

@[simp] theorem State.letGo_bitContents (s : State) (l : Located) (k : Nat) :
    (s.letGo l k).store.bit.contents = s.store.bit.contents :=
  by unfold State.letGo; (try dsimp only); (repeat' split) <;> simp

@[simp] theorem State.loadMagazine_bitContents (s : State) (tag : Nat) (number : Nat) (type : MagType) :
    (s.loadMagazine tag number type).store.bit.contents = s.store.bit.contents :=
  by unfold State.loadMagazine; (try dsimp only); (repeat' split) <;> simp

@[simp] theorem State.unloadMagazine_bitContents (s : State) (m : Session) :
    (s.unloadMagazine m).store.bit.contents = s.store.bit.contents :=
  by unfold State.unloadMagazine; (try dsimp only); (repeat' split) <;> simp

@[simp] theorem State.endWait_doubt_bitContents (s : State) :
    (s.endWait fun t l _ => t.doubt l).store.bit.contents = s.store.bit.contents :=
  by unfold State.endWait; (try dsimp only); (repeat' split) <;> simp

@[simp] theorem State.endWait_verify_bitContents (s : State) (c : Word24) :
    (s.endWait fun t l w => t.verify l w.first w.height c).store.bit.contents = s.store.bit.contents :=
  by unfold State.endWait; (try dsimp only); (repeat' split) <;> simp

@[simp] theorem State.illegal_bitContents (s : State) (a : Bool) (b : Bool) :
    (s.illegal a b).store.bit.contents = s.store.bit.contents :=
  by unfold State.illegal; (try dsimp only); (repeat' split) <;> simp

@[simp] theorem State.seatEdge_bitContents (s : State) :
    s.seatEdge.store.bit.contents = s.store.bit.contents :=
  by unfold State.seatEdge; (try dsimp only); (repeat' split) <;> simp

@[simp] theorem State.abortPanel_bitContents (s : State) (i : Fin 4) (p : Panel) :
    (s.abortPanel i p).store.bit.contents = s.store.bit.contents :=
  by unfold State.abortPanel; (try dsimp only); (repeat' split) <;> simp

@[simp] theorem State.divertBoard_bitContents (s : State) (l : Located) :
    (s.divertBoard l).store.bit.contents = s.store.bit.contents :=
  by unfold State.divertBoard; (try dsimp only); (repeat' split) <;> simp

@[simp] theorem State.resolveAbsent_bitContents (s : State) (l : Located) (k : Nat) :
    (s.resolveAbsent l k).store.bit.contents = s.store.bit.contents :=
  by unfold State.resolveAbsent; (try dsimp only); (repeat' split) <;> simp

@[simp] theorem State.raiseWorn_bitContents (s : State) :
    s.raiseWorn.store.bit.contents = s.store.bit.contents :=
  by unfold State.raiseWorn; (try dsimp only); (repeat' split) <;> simp

theorem Changes.bitContents {s u : State} {i : Instr} (change : Changes s i u) :
    u.store.bit.contents = s.store.bit.contents := by
  cases change with
  | idle | manifestRelease | constantsWrite | binFull | referenceLevel | guardCloses => rfl
  | storeSave => exact State.setPending_bitContents ..
  | _ => simp

end Sys2Proof.Machine

/-! O60: the smaller invariants. -/

namespace Sys2Proof.Machine

open Sys2Proof

/-! ### The bit (R63 to R66) -/

/-- The worn flag follows W and Weol, and W is a 32-bit number. -/
def BitUnit.Sound (b : BitUnit) : Prop :=
  b.worn = decide (b.record.params.endOfLife ≤ b.record.wear) ∧ b.record.wear ≤ 4294967295

theorem bitSafe_iff {s : State} : BitSafe s ↔ s.bit.Sound ∧ s.store.bit.contents.wear ≤ 4294967295 := by
  simp [BitSafe, BitUnit.Sound, and_assoc]

/-- What a cut leaves of the bit: W goes up, and from Weol on the bit is worn (R65, R66). -/
theorem State.addWear_bit (s : State) (length : Nat) :
    (s.addWear length).bit = { s.bit with
      record := { s.bit.record with wear := min 4294967295 (s.bit.record.wear + length) }
      worn := s.bit.worn || decide (s.bit.record.params.endOfLife ≤ min 4294967295 (s.bit.record.wear + length)) } := by
  unfold State.addWear
  dsimp only
  cases worn : s.bit.worn <;>
    cases past : decide (s.bit.record.params.endOfLife ≤ min 4294967295 (s.bit.record.wear + length)) <;> simp [worn]

theorem State.addWear_sound {s : State} (sound : s.bit.Sound) (length : Nat) : (s.addWear length).bit.Sound := by
  obtain ⟨worn, short⟩ := sound
  rw [State.addWear_bit]
  refine ⟨?_, min_le_left _ _⟩
  simp only [worn, ← Bool.decide_or, decide_eq_decide]
  omega

theorem Changes.bitSound {s u : State} {i : Instr} (change : Changes s i u) (sound : s.bit.Sound) : u.bit.Sound := by
  cases change with
  | cutDone g =>
      have charged : (s.dropOldest.addWear g.cutLength).bit.Sound := State.addWear_sound (by simpa using sound) _
      unfold State.cutDone State.settleCut
      split
      · exact charged
      · split
        · exact charged
        · simpa using charged
  | cutAbort g n =>
      have charged : (s.dropOldest.addWear n).bit.Sound := State.addWear_sound (by simpa using sound) _
      unfold State.cutAbort State.settleCut
      split
      · exact charged
      · split
        · exact charged
        · simpa using charged
  | @bitChange p serial wear fresh =>
      have range := wear.isLt
      simp only [State.mountBit, State.queueSave_frame, State.endCondition_frame]
      exact ⟨by simp [Nat.not_le.mpr fresh], by dsimp only; omega⟩
  | bitSetup params unworn usable =>
      obtain ⟨_, short⟩ := sound
      simp only [State.setupBit, State.queueSave_frame]
      exact ⟨by simp [unworn, Nat.not_le.mpr usable], short⟩
  | setLimits limit speed feed =>
      have same (n : Nat) : (s.putLimits limit speed feed n).bit = { s.bit with feedOverride := feed } := by
        simp [State.putLimits]
      rw [same]
      exact sound
  | idle | manifestRelease | constantsWrite | storeSave | binFull | referenceLevel | guardCloses => exact sound
  | _ => simpa using sound

/-- A write that begins stores the bit as it stands. -/
theorem State.storeBegin_bitContents (s : State) :
    s.storeBegin.store.bit.contents = s.store.bit.contents ∨ s.storeBegin.store.bit.contents = s.bit.record := by
  unfold State.storeBegin
  split
  · exact .inl rfl
  · split
    · exact .inl rfl
    next r _ => cases r <;> simp [State.writeContents]

/-- The end of a change stores the bit as it stands, or leaves what is stored. -/
theorem commit_bitContents (s u : State) :
    (commit s u).store.bit.contents = u.store.bit.contents ∨ (commit s u).store.bit.contents = u.bit.record := by
  have store : (s.announce (s.handOver (s.refreshWait (s.refreshFull u)))).store = u.store := by simp
  have bit : (s.announce (s.handOver (s.refreshWait (s.refreshFull u)))).bit = u.bit := by simp
  rw [commit, ← store, ← bit]
  exact State.storeBegin_bitContents _

theorem BitSafe.commit {s u : State} {i : Instr} (safe : BitSafe s) (change : Changes s i u) :
    BitSafe (commit s u) := by
  obtain ⟨sound, stored⟩ := bitSafe_iff.mp safe
  have after := change.bitSound sound
  refine bitSafe_iff.mpr ⟨by simpa using after, ?_⟩
  rcases commit_bitContents s u with same | same
  · rw [same, change.bitContents]; exact stored
  · rw [same]; exact after.2

theorem BitRecord.builtIn_short : BitRecord.builtIn.wear ≤ 4294967295 := by decide

theorem Ends.bitSafe {s t : State} {i : Instr} (ends : Ends s i t) (safe : BitSafe s) : BitSafe t := by
  cases ends with
  | unchanged => exact safe
  | port => exact safe
  | request p code r u own up change => exact safe.commit change
  | event u up change => exact safe.commit change
  | hardReset =>
      obtain ⟨_, _, stored⟩ := safe
      exact ⟨rfl, BitRecord.builtIn_short, stored⟩
  | completed lines =>
      obtain ⟨_, _, stored⟩ := safe
      have read : (s.completeReset lines).bit.Sound := by
        simp only [State.completeReset, State.raiseWorn_frame, State.post_frame, State.mapPorts_frame,
          State.defaultLimits_frame]
        refine ⟨rfl, ?_⟩
        dsimp only
        split
        · exact stored
        · exact BitRecord.builtIn_short
      exact bitSafe_iff.mpr ⟨read, by simpa [State.completeReset] using stored⟩
  | softReset =>
      obtain ⟨worn, short, stored⟩ := safe
      have kept : s.softReset.bit = { s.bit with feedOverride := 100 } := by
        simp [State.softReset, State.emptyBlocks]
      refine bitSafe_iff.mpr ⟨?_, by simpa [State.softReset] using stored⟩
      simp only [State.answer_frame, kept]
      exact ⟨worn, short⟩

/-- Every step keeps BitSafe. -/
theorem step_bitSafe (s t : State) (safe : BitSafe s) (steps : step s = .next t) : BitSafe t := by
  rcases step_cases steps with rfl | ⟨i, rest, ends⟩
  · unfold State.tick
    split <;> exact safe
  · exact ends.bitSafe safe

end Sys2Proof.Machine

/-! O60: the handshake with the elevator, the register and the store. -/

namespace Sys2Proof.Machine

open Sys2Proof

/-! ### Insertions and moves (R122, R126, R131) -/

/-- The move permission stays, and no insertion is opened or closed. -/
def State.SameHandshake (s t : State) : Prop :=
  t.insertion.permission = s.insertion.permission ∧ t.insertion.insertion.isSome = s.insertion.insertion.isSome

namespace State.SameHandshake

variable {s t u : State}

theorem same (h : s.SameHandshake t) (insertion : u.insertion = t.insertion) : s.SameHandshake u := by
  rw [State.SameHandshake, insertion]
  exact h

theorem withdraw (h : s.SameHandshake t) : s.SameHandshake t.withdraw := by
  unfold State.withdraw
  dsimp only
  split
  · split
    · exact State.SameHandshake.same (t := { t with insertion := { t.insertion with confirmation := none } }) h (by simp)
    · exact h
  · exact h

theorem disturb (h : s.SameHandshake t) : s.SameHandshake t.disturb := by
  unfold State.disturb
  split
  · exact h
  next o opened =>
    split
    · exact h
    · obtain ⟨permission, insertion⟩ := h
      rw [opened] at insertion
      exact ⟨by simpa using permission, by simpa using insertion⟩

theorem counterMoved (h : s.SameHandshake t) : s.SameHandshake t.counterMoved := by
  have kept (c : Word24) (m : Session) : s.SameHandshake (match t.insertion.confirmation with
      | some k => if m.type.near c k then t else t.withdraw
      | none => t) := by
    split
    · split
      · exact h
      · exact h.withdraw
    · exact h
  unfold State.counterMoved
  split
  · exact h
  · dsimp only
    split
    · split
      · exact kept _ _
      · exact (kept _ _).disturb
    · exact kept _ _

theorem endWait (h : s.SameHandshake t) {judge : State → Located → SettleWait → State}
    (judged : ∀ v l w, (judge v l w).insertion = v.insertion) : s.SameHandshake (t.endWait judge) := by
  unfold State.endWait
  split
  · exact h
  · dsimp only
    split
    · exact State.SameHandshake.same (t := { t with insertion := { t.insertion with wait := none } }) h (judged _ _ _)
    · exact h

theorem illegal (h : s.SameHandshake t) (a b : Bool) : s.SameHandshake (t.illegal a b) := by
  unfold State.illegal
  refine endWait (disturb (withdraw (h.same ?_))) fun _ _ _ => by simp
  split <;> simp

end State.SameHandshake

theorem HandshakeSafe.of_same {s t : State} (safe : HandshakeSafe s) (handshake : s.SameHandshake t)
    (exclude : ¬ (t.elevator.homed = true ∧ t.elevator.armed = true)) (few : t.elevator.captures.length ≤ 2) :
    HandshakeSafe t := by
  obtain ⟨closed, _, _⟩ := safe
  obtain ⟨permission, insertion⟩ := handshake
  refine ⟨fun permitted => ?_, exclude, few⟩
  rw [permission] at permitted
  rw [closed permitted] at insertion
  simpa using insertion

/-- The part of an illegal transition in the elevator unit: it is no longer HOMED (R117). -/
theorem State.illegal_elevator (s : State) (a b : Bool) :
    (s.illegal a b).elevator.homed = false ∧ (s.illegal a b).elevator.captures = s.elevator.captures := by
  have ended (u : State) : (u.withdraw.disturb.endWait fun t l _ => t.doubt l).elevator = u.elevator := by simp
  unfold State.illegal
  dsimp only
  rw [ended]
  split <;> simp

theorem HandshakeSafe.illegal {s : State} (safe : HandshakeSafe s) (a b : Bool) : HandshakeSafe (s.illegal a b) := by
  obtain ⟨homed, captures⟩ := s.illegal_elevator a b
  obtain ⟨_, _, few⟩ := id safe
  exact safe.of_same (State.SameHandshake.illegal ⟨rfl, rfl⟩ a b) (by simp [homed]) (captures ▸ few)

theorem HandshakeSafe.seatEdge {s : State} (safe : HandshakeSafe s) : HandshakeSafe s.seatEdge := by
  obtain ⟨_, exclude, few⟩ := id safe
  unfold State.seatEdge
  split
  next room =>
    have taken : (s.elevator.captures ++ [s.elevator.counter]).length ≤ 2 := by simpa using room
    dsimp only
    split
    · exact safe.of_same (State.SameHandshake.endWait ⟨rfl, rfl⟩ fun _ _ _ => by simp) (by simpa using exclude)
        (by simpa using taken)
    · exact safe.of_same ⟨rfl, rfl⟩ exclude taken
  · exact safe.of_same (by simp [State.SameHandshake]) (by simpa using exclude) (by simpa using few)

theorem HandshakeSafe.completeHoming {s : State} (safe : HandshakeSafe s) : HandshakeSafe s.completeHoming := by
  obtain ⟨_, _, few⟩ := id safe
  unfold State.completeHoming
  dsimp only
  refine safe.of_same (State.SameHandshake.counterMoved ?_) ?_ ?_
  · split <;> simp [State.SameHandshake]
  · split <;> simp
  · split <;> simpa using few

theorem HandshakeSafe.same {s t : State} (safe : HandshakeSafe s) (elevator : t.elevator = s.elevator)
    (handshake : s.SameHandshake t) : HandshakeSafe t := by
  obtain ⟨_, exclude, few⟩ := id safe
  exact safe.of_same handshake (elevator ▸ exclude) (elevator ▸ few)

/-- A closed insertion may not be followed by another wait, doubt or seat failure that opens one. -/
theorem State.drawBack_handshake (s : State) (l : Located) (k : Nat) :
    (s.drawBack l k).insertion = { s.insertion with insertion := none } := by
  simp [State.drawBack, State.closeInsertion]

theorem State.letGo_handshake (s : State) (l : Located) (k : Nat) :
    (s.letGo l k).insertion.permission = s.insertion.permission ∧ (s.letGo l k).insertion.insertion = none := by
  unfold State.letGo
  dsimp only
  split
  · simp [State.closeInsertion]
  · split <;> simp [State.closeInsertion]

theorem Changes.handshakeSafe {s u : State} {i : Instr} (change : Changes s i u) (safe : HandshakeSafe s) :
    HandshakeSafe u := by
  obtain ⟨closed, exclude, few⟩ := id safe
  cases change with
  | homeBegin =>
      unfold State.armHoming
      dsimp only
      split
      · exact safe.of_same (State.SameHandshake.withdraw ⟨rfl, rfl⟩) (by simp) (by simpa using few)
      · exact safe.of_same ⟨rfl, rfl⟩ (by simp) few
  | moveBegin noInsertion =>
      have begun : State.SameHandshake { s with insertion := { s.insertion with permission := true } } s.beginMove :=
        State.SameHandshake.same (State.SameHandshake.withdraw ⟨rfl, rfl⟩) (by simp [State.beginMove])
      have safe' : HandshakeSafe { s with insertion := { s.insertion with permission := true } } :=
        ⟨fun _ => noInsertion, exclude, few⟩
      exact safe'.same (by simp) begun
  | arrived =>
      have safe' : HandshakeSafe { s with insertion := { s.insertion with permission := false } } :=
        ⟨fun permitted => by simp at permitted, exclude, few⟩
      exact safe'.same (by simp) (State.SameHandshake.withdraw ⟨rfl, rfl⟩)
  | confirmed k =>
      have safe' : HandshakeSafe { s with insertion := { s.insertion with permission := false } } :=
        ⟨fun permitted => by simp at permitted, exclude, few⟩
      have ended : HandshakeSafe s.endMove := safe'.same (by simp) (State.SameHandshake.withdraw ⟨rfl, rfl⟩)
      exact ended.same (by simp) (by simp [State.SameHandshake, State.confirm])
  | insertBegin l k noMove =>
      refine ⟨fun permitted => ?_, by simpa [State.openInsertion] using exclude, by simp [State.openInsertion]⟩
      simp [State.openInsertion, noMove] at permitted
  | insertEndAborted l k =>
      refine ⟨fun _ => by rw [State.drawBack_handshake], by simpa using exclude, by simpa using few⟩
  | insertEndSeated l k =>
      exact ⟨fun _ => (s.letGo_handshake l k).2, by simpa using exclude, by simpa using few⟩
  | magUnload m =>
      exact safe.same (by simp) (State.SameHandshake.same (State.SameHandshake.withdraw ⟨rfl, rfl⟩)
        (by simp [State.unloadMagazine]))
  | encoderIllegal => exact safe.illegal _ _
  | illegalTransition => exact safe.illegal _ _
  | @encoderTransition a b =>
      unfold State.countTransition
      dsimp only
      exact safe.of_same (State.SameHandshake.counterMoved ⟨rfl, rfl⟩) (by simpa using exclude) (by simpa using few)
  | referenceEdge =>
      exact HandshakeSafe.completeHoming (s := { s with lines := { s.lines with reference := true } }) safe
  | seatSensorEdge => exact HandshakeSafe.seatEdge (s := { s with lines := { s.lines with seat := true } }) safe
  | seatSettleTimeout =>
      exact safe.same (by simp) (State.SameHandshake.endWait ⟨rfl, rfl⟩ fun _ _ _ => by simp)
  | idle | manifestRelease | constantsWrite | storeSave | binFull | referenceLevel | guardCloses => exact safe
  | _ => exact safe.same (by simp) (by simp [State.SameHandshake])

theorem Ends.handshakeSafe {s t : State} {i : Instr} (ends : Ends s i t) (safe : HandshakeSafe s) : HandshakeSafe t := by
  cases ends with
  | unchanged => exact safe
  | port => exact safe
  | request p code r u own up change => exact (change.handshakeSafe safe).same (by simp) (by simp [State.SameHandshake])
  | event u up change => exact (change.handshakeSafe safe).same (by simp) (by simp [State.SameHandshake])
  | hardReset => exact ⟨fun _ => rfl, nofun, Nat.zero_le 2⟩
  | completed lines =>
      exact safe.same (by simp [State.completeReset]) (by simp [State.SameHandshake, State.completeReset])
  | softReset p code r =>
      have elevator : (s.softReset.answer p code r).elevator
          = { counter := 0, homed := false, armed := false, captures := [], illegalCount := 0 } := by
        simp [State.softReset, State.emptyBlocks]
      have insertion : (s.softReset.answer p code r).insertion
          = { permission := false, confirmation := none, insertion := none, wait := none } := by
        simp [State.softReset, State.emptyBlocks]
      rw [HandshakeSafe, elevator, insertion]
      exact ⟨fun _ => rfl, nofun, Nat.zero_le 2⟩

/-- Every step keeps HandshakeSafe (O60). -/
theorem everyStepKeepsTheHandshakeSafe : Says.EveryStepKeepsTheHandshakeSafe := by
  intro s t safe steps
  rcases step_cases steps with rfl | ⟨i, rest, ends⟩
  · refine safe.same ?_ ?_
    · unfold State.tick; split <;> rfl
    · unfold State.tick; split <;> exact ⟨rfl, rfl⟩
  · exact ends.handshakeSafe safe

end Sys2Proof.Machine

/-! O60: the register and the store. -/

namespace Sys2Proof.Machine

open Sys2Proof

/-! ### The register (R97, R98) -/

/-- A register that R97 allows: at most 16 entries with distinct tags. -/
def RegisterFits (r : List RegisterEntry) : Prop := r.length ≤ 16 ∧ (r.map (·.tag)).Nodup

/-- The tags decide whether a register fits. -/
theorem RegisterFits.of_tags {r r' : List RegisterEntry} (fits : RegisterFits r) (tags : r'.map (·.tag) = r.map (·.tag)) :
    RegisterFits r' := by
  obtain ⟨short, distinct⟩ := fits
  have length := congrArg List.length tags
  simp only [List.length_map] at length
  exact ⟨length ▸ short, tags ▸ distinct⟩

/-- The entries in another order. -/
theorem RegisterFits.of_perm {r r' : List RegisterEntry} (fits : RegisterFits r) (perm : r'.Perm r) : RegisterFits r' := by
  obtain ⟨short, distinct⟩ := fits
  exact ⟨perm.length_eq ▸ short, (perm.map _).nodup_iff.mpr distinct⟩

theorem touchEntry_perm (r : List RegisterEntry) (tag : Nat) : (touchEntry r tag).Perm r := by
  unfold touchEntry
  have parts := List.filter_append_perm (fun e : RegisterEntry => e.tag != tag) r
  simpa only [bne, Bool.not_not] using parts

/-- An entry rewritten under its tag. -/
theorem tags_rewritten (r : List RegisterEntry) (tag : Nat) {f : RegisterEntry → RegisterEntry}
    (keeps : ∀ e, (f e).tag = e.tag) : (r.map fun e => if e.tag = tag then f e else e).map (·.tag) = r.map (·.tag) := by
  simp only [List.map_map]
  refine List.map_congr_left fun e _ => ?_
  simp only [Function.comp_apply]
  split
  · exact keeps e
  · rfl

theorem RegisterFits.append {r : List RegisterEntry} (fits : RegisterFits r) {e : RegisterEntry} (room : r.length < 16)
    (fresh : r.any (·.tag == e.tag) = false) : RegisterFits (r ++ [e]) := by
  obtain ⟨_, distinct⟩ := fits
  refine ⟨by simpa using room, ?_⟩
  simp only [List.map_append, List.map_cons, List.map_nil, List.nodup_append, distinct, List.nodup_singleton, true_and,
    List.mem_map, List.mem_singleton]
  rintro _ ⟨old, member, rfl⟩ _ rfl same
  have differs := List.any_eq_false.mp fresh old member
  simp [same] at differs

theorem fileTag_fits {r : List RegisterEntry} (fits : RegisterFits r) (tag type : Nat) : RegisterFits (fileTag r tag type) := by
  unfold fileTag
  split
  · exact (fits.of_tags (tags_rewritten r tag (f := fun e => { e with type := type }) fun _ => rfl)).of_perm (touchEntry_perm _ _)
  next absent =>
    have unknown : r.any (·.tag == tag) = false := by simpa using absent
    dsimp only
    split
    next room => exact fits.append room unknown
    next full =>
      obtain ⟨short, distinct⟩ := fits
      have rest : RegisterFits r.tail :=
        ⟨by rw [List.length_tail]; omega, by rw [List.map_tail]; exact distinct.tail⟩
      refine rest.append (by rw [List.length_tail]; omega) ?_
      exact List.any_eq_false.mpr fun e member => List.any_eq_false.mp unknown e (List.mem_of_mem_tail member)

/-! #### The rules keep the tags -/

theorem State.modifyEntry_tags (s : State) (tag : Nat) {f : RegisterEntry → RegisterEntry} (keeps : ∀ e, (f e).tag = e.tag) :
    (s.modifyEntry tag f).magazine.register.map (·.tag) = s.magazine.register.map (·.tag) := by
  simp only [State.modifyEntry, State.setRegister, State.queueSave_frame]
  exact tags_rewritten _ tag keeps

theorem State.condemn_tags (s : State) (tag : Nat) :
    (s.condemn tag).magazine.register.map (·.tag) = s.magazine.register.map (·.tag) := by
  simp only [State.condemn, State.markFull_counts, State.raise_frame, State.modifySession_counts]
  exact s.modifyEntry_tags tag fun _ => rfl

theorem State.retire_tags (s : State) (tag k : Nat) :
    (s.retire tag k).magazine.register.map (·.tag) = s.magazine.register.map (·.tag) := by
  unfold State.retire
  simp only [State.raise_frame]
  split
  · simp only [State.loosen_counts, State.modifySession_counts]
    exact s.modifyEntry_tags tag fun _ => rfl
  · simp only [State.modifySession_counts]
    exact s.modifyEntry_tags tag fun _ => rfl

theorem State.seatFailure_tags (s : State) (k : Nat) :
    (s.seatFailure k).magazine.register.map (·.tag) = s.magazine.register.map (·.tag) := by
  unfold State.seatFailure
  split
  · rfl
  · dsimp only
    split
    · simp
    · split
      · simp
      · split
        · rw [State.retire_tags]; simp
        · rw [State.condemn_tags]; simp

theorem Changes.registerFits {s u : State} {i : Instr} (change : Changes s i u) (fits : RegisterFits s.magazine.register) :
    RegisterFits u.magazine.register := by
  cases change with
  | magLoaded t =>
      have loaded (tag type : Nat) :
          (s.loadMagazine tag type t).magazine.register = fileTag s.magazine.register tag type := by
        unfold State.loadMagazine
        dsimp only
        split <;> simp [State.setRegister]
      rw [loaded]
      exact fileTag_fits fits _ _
  | magUnload m =>
      have unloaded : (s.unloadMagazine m).magazine.register = touchEntry s.magazine.register m.tag := by
        simp [State.unloadMagazine, State.setRegister]
      rw [unloaded]
      exact fits.of_perm (touchEntry_perm _ _)
  | registerRepair => exact fits.of_tags (s.modifyEntry_tags _ fun _ => rfl)
  | insertEndAborted l k =>
      refine fits.of_tags ?_
      have bound : (s.drawBack l k).magazine.register
          = ((s.closeInsertion.moveBoard l.record l.index .bound).seatFailure k).magazine.register := by
        simp [State.drawBack]
      rw [bound, State.seatFailure_tags]
      simp
  | resolveAbsent l =>
      refine fits.of_tags ((State.seatFailure_tags _ _).trans ?_)
      simp
  | idle | manifestRelease | constantsWrite | storeSave | binFull | referenceLevel | guardCloses => exact fits
  | _ => simpa using fits

theorem distinct_iff_nodup (l : List Nat) : distinct l = true ↔ l.Nodup := by
  induction l with
  | nil => simp [distinct]
  | cons x rest ih => simp [distinct, ih]

theorem Ends.registerSafe {s t : State} {i : Instr} (ends : Ends s i t) (safe : RegisterSafe s) : RegisterSafe t := by
  cases ends with
  | unchanged => exact safe
  | port => exact safe
  | request p code r u own up change =>
      have fits := change.registerFits safe
      simpa [RegisterSafe, RegisterFits] using fits
  | event u up change =>
      have fits := change.registerFits safe
      simpa [RegisterSafe, RegisterFits] using fits
  | hardReset => exact ⟨Nat.zero_le _, List.nodup_nil⟩
  | completed lines =>
      have read : (s.completeReset lines).magazine.register
          = if s.store.registerValid then s.store.register.contents else [] := by
        simp [State.completeReset, State.defaultLimits]
      rw [RegisterSafe, read]
      split
      next valid =>
        simp only [Store.registerValid, registerInRange, Bool.and_eq_true, decide_eq_true_eq, distinct_iff_nodup] at valid
        obtain ⟨_, ⟨short, tags⟩, _⟩ := valid
        exact ⟨short, tags⟩
      · exact ⟨Nat.zero_le _, List.nodup_nil⟩
  | softReset p code r =>
      have kept : (s.softReset.answer p code r).magazine.register = s.magazine.register := by
        simp [State.softReset, State.emptyBlocks, State.defaultLimits]
      rw [RegisterSafe, kept]
      exact safe

theorem step_registerSafe (s t : State) (safe : RegisterSafe s) (steps : step s = .next t) : RegisterSafe t := by
  rcases step_cases steps with rfl | ⟨i, rest, ends⟩
  · unfold State.tick
    split <;> exact safe
  · exact ends.registerSafe safe

/-! ### The store (R170) -/

/-- After the look at the store at the end of a change, a free store has nothing to write. -/
theorem State.storeBegin_storeSafe (s : State) : StoreSafe s.storeBegin := by
  intro free
  unfold State.storeBegin at free ⊢
  split at free
  next busy => simp [busy] at free
  · split at free
    next none => simpa using none
    · simp at free

theorem commit_storeSafe (s u : State) : StoreSafe (commit s u) := State.storeBegin_storeSafe _

theorem StoreSafe.of_store {s t : State} (safe : StoreSafe s) (store : t.store = s.store) : StoreSafe t := by
  rw [StoreSafe, store]
  exact safe

/-- Outside of RUN and HOLD a raise parks nothing, and so queues no save. -/
theorem State.raise_store {s : State} (idle : s.cell.state ≠ .run ∧ s.cell.state ≠ .hold) (k : FaultKind) :
    (s.raise k).store = s.store := by
  obtain ⟨notRun, notHold⟩ := idle
  have held (u : State) (same : u.cell.state = s.cell.state) : u.reevaluateFault.cell.state = s.cell.state := by
    unfold State.reevaluateFault State.setHolds
    split
    · exact same
    · rw [← same] at notRun notHold
      dsimp only
      split
      next run => exact absurd run notRun
      next hold => exact absurd hold notHold
      all_goals exact same
  unfold State.raise
  dsimp only
  split
  · split
    · unfold State.parkIfActive
      rw [held _ (by simp [State.countFault, State.modifyFault])]
      split
      next run => exact absurd run notRun
      next hold => exact absurd hold notHold
      all_goals simp
    · simp
    · simp
  · simp

theorem State.raiseWorn_store {s : State} (idle : s.cell.state ≠ .run ∧ s.cell.state ≠ .hold) :
    s.raiseWorn.store = s.store := by
  unfold State.raiseWorn
  split
  · exact State.raise_store idle _
  · rfl

theorem Ends.storeSafe {s t : State} {i : Instr} (ends : Ends s i t) (safe : StoreSafe s) : StoreSafe t := by
  cases ends with
  | unchanged => exact safe
  | port => exact safe
  | request p code r u own up change => exact commit_storeSafe s u
  | event u up change => exact commit_storeSafe s u
  | hardReset => exact fun _ => rfl
  | completed lines =>
      refine StoreSafe.of_store ?_ (State.raiseWorn_store (idle_ite (.inl rfl) (.inr rfl)))
      exact safe
  | softReset p code r =>
      refine safe.of_store (s := s) (State.raiseWorn_store (idle_ite (.inr rfl) (.inl rfl)))

theorem step_storeSafe (s t : State) (safe : StoreSafe s) (steps : step s = .next t) : StoreSafe t := by
  rcases step_cases steps with rfl | ⟨i, rest, ends⟩
  · unfold State.tick
    split <;> exact safe
  · exact ends.storeSafe safe

/-- Settles O60, relation by relation. -/
theorem everyStepKeepsTheSmallRelations : Obligations.EveryStepKeepsTheSmallRelations :=
  ⟨everyStepKeepsTheHandshakeSafe, step_bitSafe, step_portsSafe, step_registerSafe, step_storeSafe⟩

end Sys2Proof.Machine

/-! PROOFS. The step, the answers of the ports, and the read requests: each read runs one handler, and what the handler
gives is read off its branches. -/

namespace Sys2Proof.Machine

open Sys2Proof

/-- Settles O1, by unfolding the step. -/
theorem stepRunsTheFrontCommand : Obligations.StepRunsTheFrontCommand := fun _ _ => rfl

/-! ### The pending answer -/

/-- A port that takes its old state again is as it was. -/
@[simp] theorem Ports.set_get (ps : Ports) (p : Port) : ps.set p (ps.get p) = ps := by cases p <;> rfl

@[simp] theorem Ports.set_set (ps : Ports) (p : Port) (v w : PortState) : (ps.set p v).set p w = ps.set p w := by
  cases p <;> rfl

/-- An answer changes the answered port alone. -/
theorem State.port_answer_ne (s : State) {p q : Port} (code : Byte) (r : Reply) (other : q ≠ p) :
    (s.answer p code r).port q = s.port q := by
  simp [State.answer, other]

theorem answerBecomesPending : Says.AnswerBecomesPending := by
  intro s p code v body
  refine ⟨by simp [State.answer], fun q other => s.port_answer_ne code _ other, rfl⟩

theorem selectFallsLoadsTheAnswer : Says.SelectFallsLoadsTheAnswer := by
  intro s p
  constructor
  · intro outside
    cases line : (s.port p).line with
    | transaction f => exact absurd line (outside f)
    | idle => simp [exec, execSelectFalls, line, PortState.load, attentionSummary]
    | ignored => simp [exec, execSelectFalls, line, PortState.load, attentionSummary]
  · intro f line
    simp [exec, execSelectFalls, line]

/-- Settles O4, from the answer's port and the states of the select line. -/
theorem answersPassThroughSelect : Obligations.AnswersPassThroughSelect :=
  ⟨answerBecomesPending, selectFallsLoadsTheAnswer⟩

/-! ### Reads -/

/-- A request whose handler waits has the part unchanged. -/
theorem waits_of_handler {i : Instr} {s : State} {p : Port} {code : Byte} {handle : Handler} {r : WaitReason}
    (reaches : s.Reaches p code) (runs : exec i s = .next (s.request p code handle))
    (handled : handle s = waitFor s r) : Waits i s p code r :=
  answers_of_handler reaches runs handled

theorem readsWithoutChecksAnswer : Says.ReadsWithoutChecksAnswer := by
  intro s p
  refine ⟨fun reaches => ?_, fun reaches => ?_, fun reaches => ?_, fun reaches => ?_, fun reaches => ?_,
    fun reaches => ?_⟩
  all_goals exact answers_of_handler reaches rfl rfl

theorem panelReadAnswers (s : State) (p : Port) (reaches : s.Reaches p 5) (r : Byte) :
    (r.toNat < 1 ∨ 4 < r.toNat → Refuses (.panelRead p r) s p 5 .outOfRange)
    ∧ ∀ i : Fin 4, r.toNat = i.val + 1 → Answers (.panelRead p r) s s p 5 .accepted (s.panelBody i) :=
  ⟨fun outside => refuses_of_handler reaches rfl (by simp [fin4_outside outside]),
    fun _ number => answers_of_handler reaches rfl (by simp [fin4_of_eq_succ number, respond])⟩

theorem boardReadAnswers (s : State) (p : Port) (reaches : s.Reaches p 6) (sel : Selector) (b : Byte) :
    (s.locateSelected sel b.toNat = none → Refuses (.boardRead p sel b) s p 6 .outOfRange)
    ∧ ∀ l, s.locateSelected sel b.toNat = some l → Answers (.boardRead p sel b) s s p 6 .accepted l.board.bytes :=
  ⟨fun missing => refuses_of_handler reaches rfl (by simp [missing]),
    fun _ found => answers_of_handler reaches rfl (by simp [found, respond])⟩

theorem magazineReadAnswers (s : State) (p : Port) (reaches : s.Reaches p 11) (part k : Byte) :
    (2 < part.toNat → Refuses (.magazineRead p part k) s p 11 .outOfRange)
    ∧ Answers (.magazineRead p 0 k) s s p 11 .accepted s.magazineHeader
    ∧ (s.magazine.session = none → part = 1 ∨ part = 2 → Refuses (.magazineRead p part k) s p 11 .wrongState)
    ∧ ∀ m, s.magazine.session = some m →
      (∀ slot, nth1 m.slots k.toNat = some slot → Answers (.magazineRead p 1 k) s s p 11 .accepted slot.bytes)
      ∧ (nth1 m.slots k.toNat = none → Refuses (.magazineRead p 1 k) s p 11 .outOfRange)
      ∧ (∀ e, nth1 m.manifest k.toNat = some e → Answers (.magazineRead p 2 k) s s p 11 .accepted e.bytes)
      ∧ (nth1 m.manifest k.toNat = none → Refuses (.magazineRead p 2 k) s p 11 .outOfRange) := by
  refine ⟨fun outside => refuses_of_handler reaches rfl (by simp [outside]), answers_of_handler reaches rfl rfl,
    fun empty listed => ?_, fun m loaded => ⟨fun _ found => ?_, fun missing => ?_, fun _ found => ?_, fun missing => ?_⟩⟩
  · rcases listed with rfl | rfl
    all_goals exact refuses_of_handler reaches rfl (by simp [empty])
  · exact answers_of_handler reaches rfl (by simp [loaded, found, respond])
  · exact refuses_of_handler reaches rfl (by simp [loaded, missing])
  · exact answers_of_handler reaches rfl (by simp [loaded, found, respond])
  · exact refuses_of_handler reaches rfl (by simp [loaded, missing])

theorem registerReadAnswers (s : State) (p : Port) (reaches : s.Reaches p 12) :
    Answers (.registerRead p 0) s s p 12 .accepted (n32 s.magazine.register.length)
    ∧ ∀ k : Byte, k ≠ 0 →
      (∀ e, nth1 s.magazine.register k.toNat = some e →
        Answers (.registerRead p k) s s p 12 .accepted (e.bytes ++ n32 s.magazine.register.length))
      ∧ (nth1 s.magazine.register k.toNat = none → Refuses (.registerRead p k) s p 12 .outOfRange) :=
  ⟨answers_of_handler reaches rfl rfl, fun k (entry : k ≠ 0#8) =>
    ⟨fun _ found => answers_of_handler reaches rfl (by simp [entry, found, respond]),
      fun missing => refuses_of_handler reaches rfl (by simp [entry, missing])⟩⟩

theorem encoderReadAnswers (s : State) (p : Port) (reaches : s.Reaches p 13) :
    Answers (.encoderRead p 0) s s p 13 .accepted s.encoderBody
    ∧ ∀ k : Byte, k ≠ 0 →
      (s.magazine.session = none → Refuses (.encoderRead p k) s p 13 .wrongState)
      ∧ ∀ m, s.magazine.session = some m →
        (m.type.slotCount < k.toNat → Refuses (.encoderRead p k) s p 13 .outOfRange)
        ∧ (k.toNat ≤ m.type.slotCount →
            Answers (.encoderRead p k) s s p 13 .accepted (s.encoderBody ++ bytes24 (m.type.pos k.toNat))) :=
  ⟨answers_of_handler reaches rfl rfl, fun k (slot : k ≠ 0#8) =>
    ⟨fun empty => refuses_of_handler reaches rfl (by simp [slot, empty]), fun _ loaded =>
      ⟨fun outside => refuses_of_handler reaches rfl (by simp [slot, loaded, outside]),
        fun within => answers_of_handler reaches rfl (by simp [slot, loaded, Nat.not_lt.mpr within, respond])⟩⟩⟩

/-- Settles O8, read by read. -/
theorem readsOfThePartAnswer : Obligations.ReadsOfThePartAnswer :=
  ⟨readsWithoutChecksAnswer, fun s p => ⟨panelReadAnswers s p, boardReadAnswers s p, magazineReadAnswers s p,
    registerReadAnswers s p, encoderReadAnswers s p⟩⟩

theorem recipeReadAnswers (s : State) (p : Port) (reaches : s.Reaches p 21) (k b t : Byte) :
    (k.toNat < 1 ∨ 4 < k.toNat ∨ 48 < b.toNat ∨ 8 < t.toNat → Refuses (.recipeRead p k b t) s p 21 .outOfRange)
    ∧ ∀ i : Fin 4, k.toNat = i.val + 1 → b.toNat ≤ 48 → t.toNat ≤ 8 →
      (s.recipes[i] = .empty → Answers (.recipeRead p k b t) s s p 21 .accepted [0])
      ∧ ∀ r, (s.recipes[i] = .opened r ∨ s.recipes[i] = .valid r) →
        Answers (.recipeRead p k b t) s s p 21 .accepted
          (n8 s.recipes[i].code ++ r.readBody (s.recipeInUse i) b.toNat t.toNat) := by
  constructor
  · intro outside
    refine refuses_of_handler reaches rfl ?_
    cases slot : fin4 k.toNat with
    | none => rfl
    | some i =>
        have within : 48 < b.toNat ∨ 8 < t.toNat := by
          by_contra inside
          have := fin4_outside (n := k.toNat) (by omega)
          simp [slot] at this
        simp [within]
  · intro i number board tab
    have inside : ¬ (48 < b.toNat ∨ 8 < t.toNat) := by omega
    constructor
    · intro empty
      refine answers_of_handler reaches rfl ?_
      simp only [fin4_of_eq_succ number, if_neg inside, respond, empty]
      rfl
    · rintro r (content | content)
      all_goals
        refine answers_of_handler reaches rfl ?_
        simp only [fin4_of_eq_succ number, if_neg inside, respond, content]
        rfl

theorem manifestReadAnswers (s : State) (p : Port) (reaches : s.Reaches p 31) (k : Byte) :
    (s.magazine.closed = none → Refuses (.manifestRead p k) s p 31 .wrongState)
    ∧ ∀ c, s.magazine.closed = some c →
      (k = 0 → Answers (.manifestRead p k) s s p 31 .accepted
        (n32 c.tag ++ n8 c.typeNumber ++ n32 c.entries.length))
      ∧ (∀ e, k ≠ 0 → nth1 c.entries k.toNat = some e → Answers (.manifestRead p k) s s p 31 .accepted e.bytes)
      ∧ (k ≠ 0 → nth1 c.entries k.toNat = none → Refuses (.manifestRead p k) s p 31 .outOfRange) :=
  ⟨fun open_ => refuses_of_handler reaches rfl (by simp [open_]), fun _ closed =>
    ⟨fun header => answers_of_handler reaches rfl (by simp [closed, header, respond]),
      fun _ (entry : k ≠ 0#8) found => answers_of_handler reaches rfl (by simp [closed, entry, found, respond]),
      fun (entry : k ≠ 0#8) missing => refuses_of_handler reaches rfl (by simp [closed, entry, missing])⟩⟩

theorem statusReadAnswers (s : State) (p : Port) (reaches : s.Reaches p 42) (k : Byte) :
    (12 < k.toNat → Refuses (.statusRead p k) s p 42 .outOfRange)
    ∧ (k = 0 → Answers (.statusRead p k) s s p 42 .accepted s.statusBody)
    ∧ ∀ f : FaultKind, k.toNat = f.number → Answers (.statusRead p k) s s p 42 .accepted (s.fault f).bytes := by
  have kind_ne_zero : 1 ≤ k.toNat → k ≠ 0#8 := by rintro low rfl; simp at low
  refine ⟨fun outside => refuses_of_handler reaches rfl ?_,
    fun all => answers_of_handler reaches rfl (by simp [all, respond]),
    fun f number => answers_of_handler reaches rfl ?_⟩
  · simp [kind_ne_zero (by omega), faultOf_outside (.inr outside)]
  · simp [kind_ne_zero (number ▸ Nat.succ_pos _), number, faultOf_number, respond]

theorem nextPositionAnswers (s : State) (p : Port) (reaches : s.Reaches p 77) :
    (s.targetBoard = none → Waits (.nextPosition p) s p 77 .nothingEligible)
    ∧ (s.magazine.session = none → Waits (.nextPosition p) s p 77 .nothingEligible)
    ∧ ∀ g m, s.targetBoard = some g → s.magazine.session = some m →
      Answers (.nextPosition p) s s p 77 .accepted
        (n8 g.first ++ n8 g.height ++ bytes24 (m.type.pos g.first) ++ n16 m.type.tolerance
          ++ flag (s.insertion.confirmation == some g.first)) := by
  refine ⟨fun none_ => waits_of_handler reaches rfl (by simp [none_]), fun empty => waits_of_handler reaches rfl ?_,
    fun g m target loaded => answers_of_handler reaches rfl (by simp [target, loaded, respond])⟩
  cases target : s.targetBoard with
  | none => rfl
  | some g => simp [empty]

/-- Settles O9, read by read. -/
theorem readsOfTheCellAndHandlerAnswer : Obligations.ReadsOfTheCellAndHandlerAnswer := fun s p =>
  ⟨recipeReadAnswers s p, manifestReadAnswers s p, statusReadAnswers s p, nextPositionAnswers s p⟩

end Sys2Proof.Machine

/-! PROOFS. The state after reset, the time base, and the events and enable sets of the ports. -/

namespace Sys2Proof.Machine

open Sys2Proof

/-! ### The state after reset -/

/-- Settles O10: the state after reset is one closed value with no panel, no grant, no session and no insertion, and the
relations are decided on it. -/
theorem resetIsSafe : Obligations.ResetIsSafe := by
  have panels : PanelsSafe State.reset := .of_free rfl
  exact ⟨by decide, by decide, by decide, by decide, by decide, by decide, by decide, by decide, panels,
    panels, by decide, by decide, by decide, by decide, by decide, by decide, by decide, by decide⟩

/-! ### What falls due in a cycle -/

theorem mem_placeDue (queue : List Instr) (n : Nat) (event x : Instr) :
    x ∈ placeDue queue n event ↔ x = event ∨ x ∈ queue := by
  cases queue with
  | nil => simp [placeDue]
  | cons head rest => exact List.mem_insertIdx (Nat.le_of_lt_succ (Nat.mod_lt _ (Nat.succ_pos _)))

/-- Whatever order the draws give, the events of a cycle join the queue and nothing else does. -/
theorem mem_orderDue (due : List Instr) (n : Nat) (queue : List Instr) (x : Instr) :
    x ∈ orderDue n queue due ↔ x ∈ queue ∨ x ∈ due := by
  induction due generalizing n queue with
  | nil => simp [orderDue]
  | cons event rest ih =>
      rw [orderDue, ih, mem_placeDue, List.mem_cons]
      tauto

theorem mem_tickTimer (timer : Option Timer) (due x : Instr) :
    x ∈ (tickTimer timer due).2 ↔ x = due ∧ ∃ t, timer = some t ∧ t.tick.ms = 0 := by
  cases timer with
  | none => simp [tickTimer]
  | some t => simp only [tickTimer, Timer.due, beq_iff_eq]; split <;> simp_all

theorem mem_tickMeasurement (measurement : Option Measurement) (x : Instr) :
    x ∈ (tickMeasurement measurement).2 ↔
      x = .stallMeasurement ∧ ∃ m, measurement = some m ∧ 65535 ≤ m.count + 1 := by
  cases measurement with
  | none => simp [tickMeasurement]
  | some m => simp only [tickMeasurement]; split <;> simp_all

theorem mem_tickPhase (phase : Nat) (x : Instr) :
    x ∈ (tickPhase phase).2 ↔ x = .controlPeriod ∧ 9999 ≤ phase := by
  unfold tickPhase
  split
  · simp; omega
  · simp; omega

/-- What a cycle of the time base adds to the queue. -/
theorem State.mem_tick_pending {s : State} (up : s.starting = false) (x : Instr) :
    x ∈ s.tick.pending ↔ x ∈ s.pending
      ∨ x ∈ (tickMeasurement s.spindle.measurement).2 ∨ x ∈ (tickPhase s.spindle.controlPhase).2
      ∨ x ∈ (tickTimer s.spindle.kickTimer .kickTimeout).2 ∨ x ∈ (tickTimer s.spindle.settleTimer .settle).2
      ∨ x ∈ (tickTimer s.scheduler.expiry .grantExpiry).2 ∨ x ∈ (tickTimer s.cell.parkTimer .parkTimer).2
      ∨ x ∈ (tickTimer (s.insertion.wait.map (·.timer)) .seatSettleTimeout).2 := by
  simp only [State.tick, up, Bool.false_eq_true, if_false, mem_orderDue, List.mem_append]
  tauto

theorem step_of_empty {s : State} (empty : s.pending = []) : step s = .next s.tick := by simp [step, empty]

theorem dueEventsAreQueued : Says.DueEventsAreQueued := by
  intro s empty up
  refine ⟨s.tick, step_of_empty empty, ?_⟩
  simp only [State.mem_tick_pending up, empty, mem_tickMeasurement, mem_tickPhase, mem_tickTimer, List.not_mem_nil,
    reduceCtorEq, false_and, or_false, false_or, true_and]
  refine ⟨fun m h => ?_, fun x h => ?_, fun x h => ?_, fun x h => ?_, fun x h => ?_, fun x h => ?_⟩
  all_goals simp [h]

/-! ### A cycle in which nothing falls due -/

/-- A timer that still runs after a cycle. -/
def Timer.Running (t : Timer) : Prop := 1 < t.ms ∨ (t.ms = 1 ∧ t.us < 999)

theorem Timer.Running.not_due {t : Timer} (running : t.Running) : t.tick.due = false := by
  unfold Timer.tick Timer.due
  split
  · rcases running with more | ⟨last, _⟩ <;> simp <;> omega
  · rcases running with more | ⟨_, early⟩ <;> simp <;> omega

theorem tickTimer_of_running {timer : Option Timer} (due : Instr) (running : ∀ t, timer = some t → t.Running) :
    tickTimer timer due = (timer.map Timer.tick, []) := by
  cases timer with
  | none => rfl
  | some t => simp [tickTimer, (running t rfl).not_due]

theorem tickMeasurement_of_unsaturated {measurement : Option Measurement}
    (room : ∀ m, measurement = some m → m.count < 65534) :
    tickMeasurement measurement = (measurement.map fun m => { m with count := m.count + 1 }, []) := by
  cases measurement with
  | none => rfl
  | some m =>
      have short : ¬ 65535 ≤ m.count + 1 := by have := room m rfl; omega
      simp [tickMeasurement, short]

theorem tickPhase_of_within {phase : Nat} (within : phase < 9999) : tickPhase phase = (phase + 1, []) :=
  if_pos (by omega)

theorem emptyQueueAdvancesTheTimeBase : Says.EmptyQueueAdvancesTheTimeBase := by
  intro s empty
  rw [step_of_empty empty]
  refine ⟨fun down => by simp [State.tick, down], fun up phase measurement timers => ?_⟩
  have running : ∀ x ∈ [s.spindle.kickTimer, s.spindle.settleTimer, s.scheduler.expiry, s.cell.parkTimer,
      s.insertion.wait.map (·.timer)], ∀ t, x = some t → t.Running := timers
  simp only [List.mem_cons, List.not_mem_nil, or_false, forall_eq_or_imp, forall_eq] at running
  obtain ⟨kick, settle, expiry, park, wait⟩ := running
  simp only [State.tick, up, Bool.false_eq_true, if_false, tickMeasurement_of_unsaturated measurement,
    tickPhase_of_within phase, tickTimer_of_running _ kick, tickTimer_of_running _ settle,
    tickTimer_of_running _ expiry, tickTimer_of_running _ park, tickTimer_of_running _ wait]
  cases waiting : s.insertion.wait with
  | none => simp [orderDue]
  | some w => simp [orderDue]

/-- Settles O2: the events of a cycle are those that its counts and timers give, in whatever order. -/
theorem theTimeBaseAdvancesAndQueuesWhatIsDue : Obligations.TheTimeBaseAdvancesAndQueuesWhatIsDue :=
  ⟨emptyQueueAdvancesTheTimeBase, dueEventsAreQueued⟩

end Sys2Proof.Machine

/-! PROOFS. The event and enable sets, and what a port turns away before any block is reached. -/

namespace Sys2Proof.Machine

open Sys2Proof

/-! ### TAKE_EVENT -/

/-- A port whose event set is written back as it stood is as it was. -/
theorem State.modifyPort_events_same (s : State) (p : Port) :
    (s.modifyPort p fun v => { v with events := (s.port p).events }) = s := by
  change { s with ports := s.ports.set p (s.ports.get p) } = s
  rw [Ports.set_get]

theorem firstPending_none {p : Port} {events : Byte}
    (quiet : ∀ k, k < (portKinds p).length → events.getLsbD k = false) : firstPending p events = none := by
  simpa [firstPending, List.find?_eq_none] using quiet

theorem firstPending_first {p : Port} {events : Byte} {k : Nat} (kind : k < (portKinds p).length)
    (pending : events.getLsbD k = true) (first : ∀ j, j < k → events.getLsbD j = false) :
    firstPending p events = some k := by
  simp only [firstPending, List.find?_range_eq_some, List.mem_range]
  exact ⟨pending, kind, fun j before => by simp [first j before]⟩

theorem takeEventTakesTheHighestPriority : Says.TakeEventTakesTheHighestPriority := by
  intro s p reaches
  constructor
  · intro quiet
    refine answers_of_handler reaches rfl ?_
    simp only [firstPending_none quiet, State.modifyPort_events_same]
    rfl
  · intro k kind pending first
    refine answers_of_handler reaches rfl ?_
    simp only [firstPending_first kind pending first]
    rfl

/-! ### SET_ATTENTION -/

/-- The mask of every kind of a port has the bits of its kinds. -/
theorem getLsbD_allKinds (p : Port) (k : Nat) : (allKinds p).getLsbD k = decide (k < (portKinds p).length) := by
  have low : ∀ j : Fin 8, (allKinds p).getLsbD j = decide (j.val < (portKinds p).length) := by cases p <;> decide
  have few : (portKinds p).length ≤ 6 := by cases p <;> decide
  by_cases within : k < 8
  · exact low ⟨k, within⟩
  · rw [BitVec.getLsbD_of_ge _ _ (by omega)]
    simp only [false_eq_decide_iff]
    omega

/-- A mask has bits of the port's own kinds only when no higher bit is set. -/
theorem own_iff (p : Port) (mask : Byte) :
    mask &&& ~~~(allKinds p) = 0 ↔ ∀ k, (portKinds p).length ≤ k → mask.getLsbD k = false := by
  constructor
  · intro own k high
    by_cases within : k < 8
    · have bit := congrArg (·.getLsbD k) own
      simp only [BitVec.getLsbD_and, BitVec.getLsbD_not, getLsbD_allKinds, within, Nat.not_lt.mpr high, decide_true,
        decide_false, Bool.not_false, Bool.and_true] at bit
      simpa using bit
    · exact BitVec.getLsbD_of_ge _ _ (by omega)
  · intro none_
    refine BitVec.eq_of_getLsbD_eq fun k within => ?_
    simp only [BitVec.getLsbD_and, BitVec.getLsbD_not, getLsbD_allKinds, within, decide_true, Bool.true_and]
    by_cases high : (portKinds p).length ≤ k
    · simp [none_ k high]
    · simp [Nat.lt_of_not_le high]

theorem setAttentionReplacesTheEnableSet : Says.SetAttentionReplacesTheEnableSet := by
  intro s p mask reaches
  constructor
  · rintro ⟨k, high, set⟩
    have foreign : mask &&& ~~~(allKinds p) ≠ 0 := fun own => by simp [(own_iff p mask).mp own k high] at set
    exact refuses_of_handler reaches rfl (if_pos (bne_iff_ne.mpr foreign))
  · intro none_
    have own := (own_iff p mask).mpr none_
    exact answers_of_handler reaches rfl (if_neg (by simpa using own))

/-- Settles O5, by the kind that is found first and by the bits above the port's kinds. -/
theorem eventAndEnableSets : Obligations.EventAndEnableSets :=
  ⟨takeEventTakesTheHighestPriority, setAttentionReplacesTheEnableSet⟩

/-! ### Requests turned away at the port -/

/-- Every well-formed request runs a handler of its block behind the checks of its port. -/
theorem exec_eq_request {i : Instr} (formed : i.wellFormed = true) {p : Port} {code : Byte} {body : List Byte}
    (request : i.request = some (p, code, body)) :
    ∃ handle : Handler, ∀ s, exec i s = .next (s.request p code handle) := by
  cases i
  case panelStart q fixture slot serial xouts =>
    have short : ¬ 24 < xouts.length := by simpa [Instr.wellFormed] using formed
    simp only [Instr.request, Option.some.injEq, Prod.mk.injEq] at request
    obtain ⟨rfl, rfl, rfl⟩ := request
    exact ⟨_, fun s => by simp only [exec, execPanelStart, if_neg short]; rfl⟩
  all_goals
    simp only [Instr.request, Option.some.injEq, Prod.mk.injEq, reduceCtorEq] at request
  all_goals
    obtain ⟨rfl, rfl, rfl⟩ := request
    exact ⟨_, fun s => rfl⟩

theorem requestsTurnedAwayAtThePort : Says.RequestsTurnedAwayAtThePort := by
  intro i s p code body formed request
  obtain ⟨handle, runs⟩ := exec_eq_request formed request
  refine ⟨fun ignored => ?_, fun open_ other => ?_, fun open_ mine down => ?_⟩
  · rw [runs, s.request_ignored p code handle ignored]
  · rw [Refuses, Answers, runs, s.request_wrongPort p code handle open_ other]
    rfl
  · rw [Refuses, Answers, runs, s.request_starting p code handle open_ mine down]
    rfl

/-! ### Transactions that are no request -/

/-- A bad frame on a port that listens and may send the request is answered by its judgement. -/
theorem State.endBadFrame_refuses {s : State} {p : Port} {code : Byte} {judged : RefusedReason} {afterStarting : Bool}
    (open_ : (s.port p).line ≠ .ignored) (up : afterStarting = true → s.starting = false) :
    s.endBadFrame p code judged true afterStarting = s.refuseAtPort p code judged := by
  cases afterStarting with
  | false => simp [State.endBadFrame, open_]
  | true => simp [State.endBadFrame, open_, up rfl]

theorem State.endBadFrame_wrongPort {s : State} {p : Port} {code : Byte} {judged : RefusedReason} {afterStarting : Bool}
    (open_ : (s.port p).line ≠ .ignored) :
    s.endBadFrame p code judged false afterStarting = s.refuseAtPort p code .wrongPort := by
  simp [State.endBadFrame, open_]

theorem State.endBadFrame_ignored {s : State} {p : Port} {code : Byte} {judged : RefusedReason}
    {portFits afterStarting : Bool} (ignored : (s.port p).line = .ignored) :
    s.endBadFrame p code judged portFits afterStarting = s.modifyPort p fun v => { v with line := .idle } := by
  simp [State.endBadFrame, ignored]

/-- The judgement of a frame that carries its whole body. -/
theorem judgeFrame_frameOf (p : Port) {code : Byte} {body : List Byte} {row : RequestRow}
    (listed : requestRow code.toNat = some row) (short : body.length ≤ 30) :
    judgeFrame p (frameOf code body) =
      if lengthFits code row body.length then
        ((decodeRequest p code body).map FrameJudgement.request).getD (.unnamedValue (row.access.allows p))
      else .wrongLength (row.access.allows p) := by
  have length : (BitVec.ofNat 8 body.length).toNat = body.length := by
    rw [BitVec.toNat_ofNat]; omega
  simp only [judgeFrame, frameOf, length, listed, List.take_length]
  rw [if_neg (by omega)]
  cases decodeRequest p code body <;> rfl

theorem judgeFrame_incomplete (p : Port) (bytes : List Byte) : judgeFrame p bytes = .incomplete ↔
    (bytes.length < 2 ∨ 30 < (byteAt bytes 1).toNat ∨ bytes.length < 2 + (byteAt bytes 1).toNat) := by
  match bytes with
  | [] => simp [judgeFrame]
  | [_] => simp [judgeFrame]
  | code :: n :: rest =>
      have count : byteAt (code :: n :: rest) 1 = n := rfl
      simp only [judgeFrame, count, List.length_cons]
      split
      · simp only [true_iff]; omega
      · have complete : ¬ (rest.length + 1 + 1 < 2 ∨ 30 < n.toNat ∨ rest.length + 1 + 1 < 2 + n.toNat) := by omega
        simp only [complete, iff_false]
        repeat' split
        all_goals simp

theorem allowed_of_row {code : Byte} {row : RequestRow} (listed : requestRow code.toNat = some row) (p : Port) :
    allowed code p = row.access.allows p := by
  simp [allowed, listed]

/-- A frame of a listed code with a body of another length. -/
theorem badLengthRefuses {s : State} {p : Port} {code : Byte} {row : RequestRow} {body : List Byte}
    (listed : requestRow code.toNat = some row) (misfit : lengthFits code row body.length = false)
    (short : body.length ≤ 30) (open_ : (s.port p).line ≠ .ignored) :
    Refuses (.badLength p (frameOf code body)) s p code (if allowed code p then .badLength else .wrongPort) := by
  have judged : judgeFrame p (frameOf code body) = .wrongLength (allowed code p) := by
    simp [judgeFrame_frameOf p listed short, misfit, allowed_of_row listed]
  have runs : exec (.badLength p (frameOf code body)) s
      = .next (s.endBadFrame p code .badLength (allowed code p) false) := by
    simp only [exec, execBadLength, judged]
    rfl
  rw [Refuses, Answers, runs]
  cases mine : allowed code p with
  | true => rw [State.endBadFrame_refuses open_ (by simp)]; rfl
  | false => rw [State.endBadFrame_wrongPort open_]; rfl

/-- A frame of a fitting length whose enumerated parameter names none of its values. -/
theorem unnamedValueRefuses {s : State} {p : Port} {code : Byte} {row : RequestRow} {body : List Byte}
    (listed : requestRow code.toNat = some row) (fits : lengthFits code row body.length = true)
    (short : body.length ≤ 30) (unnamed : decodeRequest p code body = none) (reaches : s.Reaches p code) :
    Refuses (.badLength p (frameOf code body)) s p code .outOfRange := by
  obtain ⟨open_, mine, up⟩ := reaches
  have judged : judgeFrame p (frameOf code body) = .unnamedValue true := by
    simp [judgeFrame_frameOf p listed short, fits, unnamed, ← allowed_of_row listed, mine]
  have runs : exec (.badLength p (frameOf code body)) s = .next (s.endBadFrame p code .outOfRange true true) := by
    simp only [exec, execBadLength, judged]
    rfl
  rw [Refuses, Answers, runs, State.endBadFrame_refuses open_ fun _ => up]
  rfl

theorem framesThatAreNoRequest : Says.FramesThatAreNoRequest := by
  intro s p
  refine ⟨fun code unlisted => ?_, fun bytes judged => ?_, judgeFrame_incomplete p,
    fun code row body listed misfit short open_ => badLengthRefuses listed misfit short open_,
    fun body length unnamed reaches => ?_, fun body length unnamed reaches => ?_⟩
  · have runs : exec (.unknownRequest p code) s = .next (s.endBadFrame p code .unknownRequest true false) := by
      simp [exec, execUnknownRequest, unlisted]
    refine ⟨fun ignored => by rw [runs, State.endBadFrame_ignored ignored], fun open_ => ?_⟩
    rw [Refuses, Answers, runs, State.endBadFrame_refuses open_ (by simp)]
    rfl
  · have runs : exec (.badLength p bytes) s = .next (s.endBadFrame p (byteAt bytes 0) .badLength true false) := by
      simp [exec, execBadLength, judged]
    refine ⟨fun ignored => by rw [runs, State.endBadFrame_ignored ignored], fun open_ => ?_⟩
    rw [Refuses, Answers, runs, State.endBadFrame_refuses open_ (by simp)]
    rfl
  · have neither : byteAt body 7 ≠ 0#8 ∧ byteAt body 7 ≠ 1#8 := by
      constructor <;> (intro value; simp [value] at unnamed)
    exact unnamedValueRefuses (row := ⟨.only .cell, 8⟩) rfl (by simp [lengthFits, length]) (by omega)
      (by simp [decodeRequest, neither]) reaches
  · have neither : byteAt body 5 ≠ 0#8 ∧ byteAt body 5 ≠ 1#8 := by
      constructor <;> (intro value; simp [value] at unnamed)
    exact unnamedValueRefuses (row := ⟨.only .pick, 6⟩) rfl (by simp [lengthFits, length]) (by omega)
      (by simp [decodeRequest, neither]) reaches

/-- Settles O6, by the checks of a port and the judgement of a transaction's bytes. -/
theorem whatNeverReachesABlock : Obligations.WhatNeverReachesABlock :=
  ⟨requestsTurnedAwayAtThePort, framesThatAreNoRequest⟩

end Sys2Proof.Machine

/-! PROOFS. The frame of a request decodes to it: words, selectors and sections are read back from the bytes they were
written to, and each code picks its own request. -/

namespace Sys2Proof.Machine

open Sys2Proof

/-! ### Words -/

theorem append_bytes16 (w : Word16) : (w.extractLsb' 8 8 ++ w.extractLsb' 0 8 : BitVec (8 + 8)) = w := by
  refine BitVec.eq_of_getLsbD_eq fun k within => ?_
  simp only [BitVec.getLsbD_append, BitVec.getLsbD_extractLsb']
  split
  · simp_all
  · have : k - 8 < 8 := by omega
    simp_all

theorem append_bytes24 (w : Word24) :
    (w.extractLsb' 16 8 ++ w.extractLsb' 8 8 ++ w.extractLsb' 0 8 : BitVec (8 + 8 + 8)) = w := by
  have high : (w.extractLsb' 16 8 ++ w.extractLsb' 8 8 : BitVec (8 + 8)) = w.extractLsb' 8 16 :=
    BitVec.extractLsb'_append_extractLsb'_eq_extractLsb' (by omega)
  rw [high]
  exact (BitVec.extractLsb'_append_extractLsb'_eq_extractLsb' (w := 24) (by omega)).trans (by simp)

theorem append_bytes32 (w : Word32) :
    (w.extractLsb' 24 8 ++ w.extractLsb' 16 8 ++ w.extractLsb' 8 8 ++ w.extractLsb' 0 8 : BitVec (8 + 8 + 8 + 8)) = w := by
  have high : (w.extractLsb' 24 8 ++ w.extractLsb' 16 8 : BitVec (8 + 8)) = w.extractLsb' 16 16 :=
    BitVec.extractLsb'_append_extractLsb'_eq_extractLsb' (by omega)
  have upper : (w.extractLsb' 16 16 ++ w.extractLsb' 8 8 : BitVec (16 + 8)) = w.extractLsb' 8 24 :=
    BitVec.extractLsb'_append_extractLsb'_eq_extractLsb' (by omega)
  rw [high, upper]
  exact (BitVec.extractLsb'_append_extractLsb'_eq_extractLsb' (w := 32) (by omega)).trans (by simp)

/-! ### Selectors and sections -/

/-- A well-formed selector at the front of a body is read back, whatever follows it. -/
theorem selectorAt_bytes {sel : Selector} (formed : sel.wellFormed = true) (rest : List Byte) :
    selectorAt (sel.bytes ++ rest) 0 = sel := by
  cases sel with
  | fixtureA => simp [selectorAt, Selector.bytes, byteAt]
  | fixtureB => simp [selectorAt, Selector.bytes, byteAt]
  | serial v => simp [selectorAt, Selector.bytes, bytes32, byteAt, word32At, append_bytes32]
  | unnamed b =>
      have above : 2 < b.toNat := by simpa [Selector.wellFormed] using formed
      have none_ : b ≠ 0#8 ∧ b ≠ 1#8 ∧ b ≠ 2#8 := by
        refine ⟨?_, ?_, ?_⟩ <;> (rintro rfl; simp at above)
      simp [selectorAt, Selector.bytes, byteAt, none_]

/-- What follows a selector in a body stands where it stood. -/
theorem byteAt_after_selector (sel : Selector) (rest : List Byte) (n : Nat) :
    byteAt (sel.bytes ++ rest) (n + 5) = byteAt rest n := by
  have five : sel.bytes.length = 5 := Sys2Proof.Laws.RequestFrame.selector_length sel
  simp [byteAt, List.getElem?_append_right, five]

theorem constantsSectionAt_bytes {f : ConstantsSection} (formed : f.wellFormed = true) :
    constantsSectionAt f.bytes = f := by
  cases f with
  | magazineType n count pitch base tolerance =>
      have named : n = 1#8 ∨ n = 2#8 ∨ n = 3#8 ∨ n = 4#8 := by
        have range : 1 ≤ n.toNat ∧ n.toNat ≤ 4 := by simpa [ConstantsSection.wellFormed] using formed
        have : n.toNat = 1 ∨ n.toNat = 2 ∨ n.toNat = 3 ∨ n.toNat = 4 := by omega
        simpa [BitVec.toNat_eq] using this
      simp [constantsSectionAt, ConstantsSection.bytes, ConstantsSection.fieldBytes, ConstantsSection.number, byteAt,
        bytes24, bytes16, word24At, word16At, append_bytes24, append_bytes16, named]
  | spindle sr band coarse kickDuty kickTimeout startDuty rampRate settle miss stall =>
      simp [constantsSectionAt, ConstantsSection.bytes, ConstantsSection.fieldBytes, ConstantsSection.number, byteAt,
        bytes16, word16At, append_bytes16]
  | cell preset park seat hang bin =>
      simp [constantsSectionAt, ConstantsSection.bytes, ConstantsSection.fieldBytes, ConstantsSection.number, byteAt,
        bytes24, bytes16, word24At, word16At, append_bytes24, append_bytes16]
  | unnamed n =>
      have other : n ≠ 1#8 ∧ n ≠ 2#8 ∧ n ≠ 3#8 ∧ n ≠ 4#8 ∧ n ≠ 5#8 ∧ n ≠ 6#8 := by
        refine ⟨?_, ?_, ?_, ?_, ?_, ?_⟩ <;> (rintro rfl; simp [ConstantsSection.wellFormed] at formed)
      simp [constantsSectionAt, ConstantsSection.bytes, ConstantsSection.number, byteAt, other]

/-! ### Requests -/

/-- The requests whose bodies carry words. -/
def HasWords : Instr → Bool
  | .recipeOpen .. | .recipeBoard .. | .recipeTab .. | .panelStart .. | .panelResult .. | .bitChange .. | .bitSetup ..
    | .registerRepair .. | .claim .. | .gripped .. | .release .. | .destination .. | .rejectPlaced .. | .insertBegin ..
    | .insertEndAborted .. | .insertEndSeated .. | .magLoaded .. => true
  | _ => false

theorem decodeRequest_words {i : Instr} (words : HasWords i = true) {p : Port} {code : Byte} {body : List Byte}
    (request : i.request = some (p, code, body)) : decodeRequest p code body = some i := by
  cases i
  all_goals
    simp only [HasWords, reduceCtorEq, Bool.false_eq_true] at words
  all_goals
    simp only [Instr.request, Option.some.injEq, Prod.mk.injEq] at request
    obtain ⟨rfl, rfl, rfl⟩ := request
    simp [decodeRequest, byteAt, word16At, word32At, bytes16, bytes32, append_bytes16, append_bytes32]

/-- A request body decodes, under its code, to the request. -/
theorem decodeRequest_request {i : Instr} (formed : i.wellFormed = true) {p : Port} {code : Byte} {body : List Byte}
    (request : i.request = some (p, code, body)) : decodeRequest p code body = some i := by
  cases i
  case boardRead q sel b =>
    cases request
    have last := byteAt_after_selector sel [b] 0
    simp_all [decodeRequest, selectorAt_bytes (sel := sel) formed, byteAt]
  case panelAbort q sel =>
    cases request
    have read := selectorAt_bytes (sel := sel) formed []
    simp_all [decodeRequest]
  case resolveTabUncut q sel b t =>
    cases request
    have board := byteAt_after_selector sel [b, t, 0] 0
    have tab := byteAt_after_selector sel [b, t, 0] 1
    have finding := byteAt_after_selector sel [b, t, 0] 2
    simp_all [decodeRequest, selectorAt_bytes (sel := sel) formed, byteAt]
  case resolveTabCut q sel b t =>
    cases request
    have board := byteAt_after_selector sel [b, t, 1] 0
    have tab := byteAt_after_selector sel [b, t, 1] 1
    have finding := byteAt_after_selector sel [b, t, 1] 2
    simp_all [decodeRequest, selectorAt_bytes (sel := sel) formed, byteAt]
  case divert q sel b =>
    cases request
    have last := byteAt_after_selector sel [b] 0
    simp_all [decodeRequest, selectorAt_bytes (sel := sel) formed, byteAt]
  case constantsWrite q f =>
    cases request
    simp [decodeRequest, constantsSectionAt_bytes (f := f) formed]
  case recipeOpen | recipeBoard | recipeTab | panelStart | panelResult | bitChange | bitSetup | registerRepair | claim
      | gripped | release | destination | rejectPlaced | insertBegin | insertEndAborted | insertEndSeated | magLoaded =>
    exact decodeRequest_words rfl request
  all_goals
    simp only [Instr.request, Option.some.injEq, Prod.mk.injEq, reduceCtorEq] at request
  all_goals
    obtain ⟨rfl, rfl, rfl⟩ := request
    rfl

/-- The row of a request in the request table, and the fit of its body. -/
theorem request_row {i : Instr} (formed : i.wellFormed = true) {p : Port} {code : Byte} {body : List Byte}
    (request : i.request = some (p, code, body)) :
    ∃ row, requestRow code.toNat = some row ∧ lengthFits code row body.length = true ∧ body.length ≤ 30 := by
  cases i
  case boardRead q sel b => exact Laws.RequestFrame.boardRead q sel b formed _ _ _ request
  case panelStart q f k serial xouts => exact Laws.RequestFrame.panelStart q f k serial xouts formed _ _ _ request
  case panelAbort q sel => exact Laws.RequestFrame.panelAbort q sel formed _ _ _ request
  case resolveTabUncut q sel b t => exact Laws.RequestFrame.resolveTabUncut q sel b t formed _ _ _ request
  case resolveTabCut q sel b t => exact Laws.RequestFrame.resolveTabCut q sel b t formed _ _ _ request
  case divert q sel b => exact Laws.RequestFrame.divert q sel b formed _ _ _ request
  case constantsWrite q f => exact Laws.RequestFrame.constantsWrite q f formed _ _ _ request
  all_goals
    simp only [Instr.request, Option.some.injEq, Prod.mk.injEq, reduceCtorEq] at request
  all_goals
    obtain ⟨rfl, rfl, rfl⟩ := request
    exact ⟨_, rfl, rfl, Nat.le_of_ble_eq_true rfl⟩

/-- Settles O3: the frame has its row and length, so its judgement is what its body decodes to. -/
theorem frameOfARequestDecodesToIt : Obligations.FrameOfARequestDecodesToIt := by
  intro i p bytes formed encoded
  simp only [encodeFrame, Option.map_eq_some_iff, Prod.mk.injEq] at encoded
  obtain ⟨⟨q, code, body⟩, request, rfl, rfl⟩ := encoded
  obtain ⟨row, listed, fits, short⟩ := request_row formed request
  have judged : judgeFrame q (frameOf code body) = .request i := by
    rw [judgeFrame_frameOf q listed short, if_pos fits, decodeRequest_request formed request]
    rfl
  simp [decodeFrame, judged]

end Sys2Proof.Machine

/-! PROOFS. The hold set, and the raise of a fault kind: what each does to its entry, the cell, the store and the event
sets, said once for the operations that raise one (R145, R146, R153, R154). -/

namespace Sys2Proof.Machine

open Sys2Proof

/-! ### The hold set -/

/-- A change that neither fills the hold set in RUN nor empties it in HOLD has no further effect (R146). -/
theorem State.setHolds_stays {s : State} {h : HoldSet} (inRun : ¬ (s.cell.state = .run ∧ h.isEmpty = false))
    (inHold : ¬ (s.cell.state = .hold ∧ h.isEmpty = true)) :
    s.setHolds h = { s with cell := { s.cell with holds := h } } := by
  unfold State.setHolds
  split
  next same => rw [same]
  next =>
    dsimp only
    split
    next run => simp_all
    next hold => simp_all
    all_goals rfl

theorem State.setHolds_toHold {s : State} {h : HoldSet} (run : s.cell.state = .run)
    (empty : s.cell.holds.isEmpty = true) (filled : h.isEmpty = false) :
    s.setHolds h = { s with cell := { s.cell with holds := h, state := .hold, parkTimer := s.loadedPark } } := by
  have changes : h ≠ s.cell.holds := by rintro rfl; simp [empty] at filled
  simp only [State.setHolds, if_neg changes, run, filled]
  rfl

theorem State.setHolds_toRun {s : State} {h : HoldSet} (hold : s.cell.state = .hold)
    (filled : s.cell.holds.isEmpty = false) (empty : h.isEmpty = true) :
    s.setHolds h = { s with cell := { s.cell with holds := h, state := .run, parkTimer := none } } := by
  have changes : h ≠ s.cell.holds := by rintro rfl; simp [empty] at filled
  simp only [State.setHolds, if_neg changes, hold, empty]
  rfl

/-- What the end of a change of the hold set leaves (R146). -/
theorem commit_setHolds (s : State) (h : HoldSet) :
    (commit s (s.setHolds h)).cell = (s.setHolds h).cell ∧ (commit s (s.setHolds h)).store = s.storeBegin.store
      ∧ { commit s (s.setHolds h) with cell := s.cell, store := s.store, ports := s.ports } = s := by
  obtain ⟨magazine, gripper, spindle⟩ := commit_quiet s (s.setHolds h) (by simp) (by simp) (by simp)
  refine ⟨by simp, ?store, ?frame⟩
  case store => apply commit_store_of_records <;> simp
  case frame => simp [magazine, gripper, spindle]

/-- Settles O15, by whether the change fills the hold set in RUN or empties it in HOLD. -/
theorem holdRequestsChangeTheirMember : Obligations.HoldRequestsChangeTheirMember := by
  intro s p set safe code h reaches
  obtain ⟨emptyInRun, filledInHold, _⟩ := safe
  obtain ⟨cell, store, frame⟩ := commit_setHolds s h
  refine ⟨commit s (s.setHolds h), ?answer, ?holds, ?faults, ?last, fun run filled => ?toHold,
    fun hold empty => ?toRun, fun notRun notHold => ?stays, store, frame⟩
  case answer =>
    have mask : (commit s (s.setHolds h)).cell.holds.mask = h.mask := by rw [cell, State.setHolds_holds]
    cases set with
    | true => exact answers_of_handler reaches rfl (by rw [← mask]; rfl)
    | false => exact answers_of_handler reaches rfl (by rw [← mask]; rfl)
  case holds => rw [cell, State.setHolds_holds]
  case faults => rw [cell, State.setHolds_faults]
  case last => rw [cell, State.setHolds_lastRaised]
  case toHold =>
    have held := State.setHolds_toHold run (emptyInRun run) filled
    refine ⟨by rw [cell, held], by rw [cell, held], fun permitted => ?_⟩
    exact commit_posts_cuttingStopped permitted (by simp [held])
  case toRun =>
    have running := State.setHolds_toRun hold (filledInHold hold) empty
    exact ⟨by rw [cell, running], by rw [cell, running]⟩
  case stays =>
    have stays := State.setHolds_stays notRun notHold
    exact ⟨by rw [cell, stays], by rw [cell, stays]⟩

/-- The hold set re-evaluated is as the change asks, and the cell works after it exactly if it did before. -/
theorem State.setHolds_working (s : State) (h : HoldSet) : (s.setHolds h).working ↔ s.working := by
  refine ⟨fun after => ?_, fun working => Moves.working_setHolds working h⟩
  by_contra idle
  have run : s.cell.state ≠ .run := fun run => idle (.inl run)
  have hold : s.cell.state ≠ .hold := fun hold => idle (.inr hold)
  rw [State.setHolds_stays (fun both => run both.1) (fun both => hold both.1)] at after
  exact idle after

/-! ### The fault table -/

theorem State.faultHolds_iff (s : State) : s.faultHolds = true ↔ ∃ k, (s.fault k).holds = true := by
  have all (k : FaultKind) : k ∈ allFaults := by cases k <;> decide
  simp [State.faultHolds, all]

/-- FAULT belongs in the hold set of two states alike when each kind holds in both or in neither. -/
theorem State.faultHolds_of_holds {s t : State} (same : ∀ k, (t.fault k).holds = (s.fault k).holds) :
    t.faultHolds = s.faultHolds := by
  rw [Bool.eq_iff_iff, State.faultHolds_iff, State.faultHolds_iff]
  simp only [same]

theorem State.faultHolds_mono {s t : State} (more : ∀ k, (s.fault k).holds = true → (t.fault k).holds = true)
    (holds : s.faultHolds = true) : t.faultHolds = true := by
  obtain ⟨k, held⟩ := s.faultHolds_iff.mp holds
  exact t.faultHolds_iff.mpr ⟨k, more k held⟩

/-- The hold set stays as it is when FAULT in it is what the table says (R145). -/
theorem State.reevaluateFault_same {s : State} (fault : s.cell.holds.fault = s.faultHolds) : s.reevaluateFault = s :=
  if_pos (by rw [← fault])

/-! ### The raise of an enabled kind -/

/-- The entry of an enabled kind after a raise (R153, R154). -/
def FaultEntry.raised (e : FaultEntry) (k : FaultKind) : FaultEntry :=
  { e with count := min 255 (e.count + 1), active := e.active || k.persistent, latched := e.latched || e.latch }

/-- A raise before FAULT is re-evaluated and the action applied (R154). -/
def State.noted (s : State) (k : FaultKind) : State :=
  (s.modifyFault k fun e => { e with active := e.active || k.persistent }).countFault k

@[simp] theorem State.noted_frame (s : State) (k : FaultKind) :
    (s.noted k).recipes = s.recipes ∧ (s.noted k).panels = s.panels ∧ (s.noted k).scheduler = s.scheduler ∧
    (s.noted k).gripper = s.gripper ∧ (s.noted k).bit = s.bit ∧ (s.noted k).spindle = s.spindle ∧
    (s.noted k).magazine = s.magazine ∧ (s.noted k).elevator = s.elevator ∧ (s.noted k).insertion = s.insertion ∧
    (s.noted k).constants = s.constants ∧ (s.noted k).store = s.store ∧ (s.noted k).lines = s.lines ∧
    (s.noted k).starting = s.starting ∧ (s.noted k).cell.state = s.cell.state ∧ (s.noted k).cell.holds = s.cell.holds ∧
    (s.noted k).cell.parkTimer = s.cell.parkTimer ∧ (s.noted k).cell.lastRaised = some k := by
  refine ⟨?_, ?_, ?_, ?_, ?_, ?_, ?_, ?_, ?_, ?_, ?_, ?_, ?_, ?_, ?_, ?_, ?_⟩ <;> rfl

theorem State.fault_noted_same (s : State) (k : FaultKind) : (s.noted k).fault k = (s.fault k).raised k :=
  (State.fault_modifyFault (s.modifyFault k fun e => { e with active := e.active || k.persistent }) k
    fun e => { e with count := min 255 (e.count + 1), latched := e.latched || e.latch }).trans (by simp; rfl)

theorem State.fault_noted_ne (s : State) {j k : FaultKind} (other : j ≠ k) : (s.noted k).fault j = s.fault j :=
  (State.fault_modifyFault_ne (s.modifyFault k fun e => { e with active := e.active || k.persistent })
    (fun e => { e with count := min 255 (e.count + 1), latched := e.latched || e.latch }) other).trans
    (s.fault_modifyFault_ne _ other)

theorem State.noted_posts (s : State) (k : FaultKind) : (s.noted k).isPending .cell .faultRaised = true :=
  State.isPending_post _ (by decide)

theorem State.noted_keepsPending (s : State) (k : FaultKind) : s.KeepsPending (s.noted k) :=
  State.KeepsPending.trans (.of_ports rfl) (State.post_keepsPending _ _ _)

/-- A raise of this kind parks the cell (R154). -/
def State.RaiseParks (s : State) (k : FaultKind) : Prop :=
  (s.fault k).enabled = true ∧ (s.fault k).action = .park ∧ s.working

theorem State.reevaluateFault_working (s : State) : s.reevaluateFault.working ↔ s.working := s.setHolds_working _

theorem State.parkIfActive_working {s : State} (working : s.working) : s.parkIfActive = s.enterPark := by
  rcases working with state | state <;> simp [State.parkIfActive, state]

theorem State.parkIfActive_idle {s : State} (idle : ¬ s.working) : s.parkIfActive = s := by
  unfold State.parkIfActive
  split
  next run => exact absurd (.inl run) idle
  next hold => exact absurd (.inr hold) idle
  all_goals rfl

theorem State.raise_of_parks {s : State} {k : FaultKind} (parks : s.RaiseParks k) :
    s.raise k = (s.noted k).reevaluateFault.enterPark := by
  obtain ⟨on, park, working⟩ := parks
  have works : (s.noted k).reevaluateFault.working := (State.reevaluateFault_working _).mpr working
  rw [← State.parkIfActive_working works]
  simp only [State.raise, on, park, if_true]
  rfl

theorem State.raise_of_stays {s : State} {k : FaultKind} (on : (s.fault k).enabled = true)
    (stays : ¬ s.RaiseParks k) : s.raise k = (s.noted k).reevaluateFault := by
  cases action : (s.fault k).action with
  | note | hold =>
      simp only [State.raise, on, action, if_true]
      rfl
  | park =>
      have idle : ¬ (s.noted k).reevaluateFault.working := fun works =>
        stays ⟨on, action, (State.reevaluateFault_working (s.noted k)).mp works⟩
      rw [← State.parkIfActive_idle idle]
      simp only [State.raise, on, action, if_true]
      rfl

theorem State.raise_of_disabled {s : State} {k : FaultKind} (off : (s.fault k).enabled = false) :
    s.raise k = (s.modifyFault k fun e => { e with active := e.active || k.persistent }).reevaluateFault := by
  simp [State.raise, off]

/-- An enabled kind is counted, and the kind shown as the last raised (R154). -/
theorem State.raise_enabled (s : State) {k : FaultKind} (on : (s.fault k).enabled = true) :
    (s.raise k).fault k = (s.fault k).raised k ∧ (s.raise k).cell.lastRaised = some k := by
  by_cases parks : s.RaiseParks k
  · rw [State.raise_of_parks parks, State.fault_of_faults (State.enterPark_faults _), State.fault_reevaluateFault,
      State.fault_noted_same]
    refine ⟨rfl, ?_⟩
    simp only [State.enterPark_eq, State.queueSave_frame, State.broughtToRest_cell]
    exact (State.setHolds_lastRaised _ _).trans (by simp)
  · rw [State.raise_of_stays on parks, State.fault_reevaluateFault, State.fault_noted_same]
    exact ⟨rfl, (State.setHolds_lastRaised _ _).trans (by simp)⟩

/-- A raise touches the entry of its own kind only. -/
theorem State.raise_fault_ne (s : State) {j k : FaultKind} (other : j ≠ k) : (s.raise k).fault j = s.fault j := by
  by_cases on : (s.fault k).enabled = true
  · by_cases parks : s.RaiseParks k
    · rw [State.raise_of_parks parks, State.fault_of_faults (State.enterPark_faults _), State.fault_reevaluateFault,
        State.fault_noted_ne s other]
    · rw [State.raise_of_stays on parks, State.fault_reevaluateFault, State.fault_noted_ne s other]
  · rw [State.raise_of_disabled (Bool.eq_false_iff.mpr on), State.fault_reevaluateFault,
      State.fault_modifyFault_ne _ _ other]

theorem State.raise_fault_disabled (s : State) {k : FaultKind} (off : (s.fault k).enabled = false) :
    (s.raise k).fault k = { s.fault k with active := (s.fault k).active || k.persistent } := by
  rw [State.raise_of_disabled off, State.fault_reevaluateFault, State.fault_modifyFault]

theorem State.reevaluateFault_keepsPending (s : State) : s.KeepsPending s.reevaluateFault := .of_ports (by simp)

theorem State.enterPark_keepsPending (s : State) : s.KeepsPending s.enterPark :=
  ((State.revokeAll_keepsPending (u := { s with cell := { s.cell with state := .park, parkTimer := none } }) rfl).trans
    (State.stopSpindle_keepsPending _)).trans (.of_ports (by simp [State.enterPark]))

/-- No kind that was pending is lost by a raise. -/
theorem State.raise_keepsPending (s : State) (k : FaultKind) : s.KeepsPending (s.raise k) := by
  by_cases on : (s.fault k).enabled = true
  · have noted := (s.noted_keepsPending k).trans (State.reevaluateFault_keepsPending _)
    by_cases parks : s.RaiseParks k
    · rw [State.raise_of_parks parks]
      exact noted.trans (State.enterPark_keepsPending _)
    · rwa [State.raise_of_stays on parks]
  · rw [State.raise_of_disabled (Bool.eq_false_iff.mpr on)]
    exact .of_ports (by simp)

/-- FAULT_RAISED is pending after the raise of an enabled kind (R154). -/
theorem State.raise_posts (s : State) {k : FaultKind} (on : (s.fault k).enabled = true) :
    (s.raise k).isPending .cell .faultRaised = true := by
  have noted := State.reevaluateFault_keepsPending _ _ _ (s.noted_posts k)
  by_cases parks : s.RaiseParks k
  · rw [State.raise_of_parks parks]
    exact State.enterPark_keepsPending _ _ _ noted
  · rwa [State.raise_of_stays on parks]

/-! ### The store, the spindle and the window at a raise -/

/-- A raise that does not park leaves the store, the spindle loop and the window as they are. -/
theorem State.raise_stays {s : State} {k : FaultKind} (stays : ¬ s.RaiseParks k) :
    (s.raise k).store = s.store ∧ (s.raise k).spindle = s.spindle ∧ (s.raise k).scheduler = s.scheduler := by
  by_cases on : (s.fault k).enabled = true
  · rw [State.raise_of_stays on stays]
    simp
  · rw [State.raise_of_disabled (Bool.eq_false_iff.mpr on)]
    simp

/-- A raise that parks brings the cell to rest with all the effects of R149. -/
theorem State.raise_parks {s : State} {k : FaultKind} (parks : s.RaiseParks k) :
    (s.raise k).cell.state = .park ∧ (s.raise k).cell.parkTimer = none
      ∧ (s.raise k).store = (s.queueSave .bit).store ∧ SpindleStopped s (s.raise k)
      ∧ WindowRevoked s (s.raise k) := by
  rw [State.raise_of_parks parks, State.enterPark_eq]
  let u := (s.noted k).reevaluateFault
  obtain ⟨window, told⟩ := (u.broughtToRest_window .park).of_queueSave .bit
  have stopped := u.broughtToRest_spindle .park
  refine ⟨by simp, by simp, State.queueSave_store .bit (by simp), ?_, ?_, ?_⟩
  · simpa [SpindleStopped, u] using stopped
  · simpa [u] using window
  · simpa [u] using told

end Sys2Proof.Machine

/-! PROOFS. The raise of a fault under the hold relations, and what the resets leave (R153, R154, R167, R168, R173). -/

namespace Sys2Proof.Machine

open Sys2Proof

/-! ### The hold set and the cell state after a raise -/

@[simp] theorem State.faultHolds_reevaluateFault (s : State) : s.reevaluateFault.faultHolds = s.faultHolds :=
  State.faultHolds_of_faults (s.setHolds_faults _)

theorem State.reevaluateFault_holds (s : State) :
    s.reevaluateFault.cell.holds = { s.cell.holds with fault := s.reevaluateFault.faultHolds } := by
  rw [State.faultHolds_reevaluateFault]
  exact s.setHolds_holds _

/-- After a raise FAULT is in the hold set exactly while a kind holds, and the other members are as they were. -/
theorem State.raise_holds (s : State) (k : FaultKind) :
    (s.raise k).cell.holds = { s.cell.holds with fault := (s.raise k).faultHolds } := by
  by_cases on : (s.fault k).enabled = true
  · by_cases parks : s.RaiseParks k
    · rw [State.raise_of_parks parks, State.faultHolds_of_faults (State.enterPark_faults _), State.enterPark_eq]
      simp only [State.queueSave_frame, State.broughtToRest_cell]
      exact (s.noted k).reevaluateFault_holds
    · rw [State.raise_of_stays on parks]
      exact (s.noted k).reevaluateFault_holds
  · rw [State.raise_of_disabled (Bool.eq_false_iff.mpr on)]
    exact State.reevaluateFault_holds _

theorem State.reevaluateFault_idle {s : State} (idle : ¬ s.working) :
    s.reevaluateFault.cell.state = s.cell.state ∧ s.reevaluateFault.cell.parkTimer = s.cell.parkTimer := by
  have stays := State.setHolds_stays (s := s) (h := { s.cell.holds with fault := s.faultHolds })
    (fun both => idle (.inl both.1)) (fun both => idle (.inr both.1))
  exact ⟨congrArg (·.cell.state) stays, congrArg (·.cell.parkTimer) stays⟩

/-- Outside RUN and HOLD a raise leaves the cell state and the park timer. -/
theorem State.raise_idle {s : State} (idle : ¬ s.working) (k : FaultKind) :
    (s.raise k).cell.state = s.cell.state ∧ (s.raise k).cell.parkTimer = s.cell.parkTimer := by
  by_cases on : (s.fault k).enabled = true
  · rw [State.raise_of_stays on fun parks => idle parks.2.2]
    exact State.reevaluateFault_idle (s := s.noted k) idle
  · rw [State.raise_of_disabled (Bool.eq_false_iff.mpr on)]
    exact State.reevaluateFault_idle (s := s.modifyFault k _) idle

/-- The settings of a kind are not touched by any raise (R155). -/
theorem State.raise_settings (s : State) (k j : FaultKind) :
    ((s.raise k).fault j).enabled = (s.fault j).enabled ∧ ((s.raise k).fault j).action = (s.fault j).action
      ∧ ((s.raise k).fault j).latch = (s.fault j).latch := by
  by_cases same : j = k
  · subst same
    by_cases on : (s.fault j).enabled = true
    · rw [(s.raise_enabled on).1]
      exact ⟨rfl, rfl, rfl⟩
    · rw [s.raise_fault_disabled (Bool.eq_false_iff.mpr on)]
      exact ⟨rfl, rfl, rfl⟩
  · rw [s.raise_fault_ne same]
    exact ⟨rfl, rfl, rfl⟩

/-- A kind whose action is not HOLD holds neither before nor after it is noted. -/
theorem State.faultHolds_noted {s : State} {k : FaultKind} (action : (s.fault k).action ≠ .hold) :
    (s.noted k).faultHolds = s.faultHolds := by
  refine State.faultHolds_of_holds fun j => ?_
  by_cases same : j = k
  · subst same
    have other : ((s.fault j).action == .hold) = false := by simpa using action
    rw [s.fault_noted_same]
    simp [FaultEntry.holds, FaultEntry.raised, other]
  · rw [s.fault_noted_ne same]

theorem State.raise_eq_noted {s : State} {k : FaultKind} (fault : s.cell.holds.fault = s.faultHolds)
    (on : (s.fault k).enabled = true) (action : (s.fault k).action ≠ .hold) (stays : ¬ s.RaiseParks k) :
    s.raise k = s.noted k := by
  rw [State.raise_of_stays on stays]
  exact State.reevaluateFault_same (by rw [State.faultHolds_noted action]; exact fault)

/-- A kind that held still holds when it is raised. -/
theorem State.faultHolds_of_noted {s : State} (k : FaultKind) (holds : s.faultHolds = true) :
    (s.noted k).faultHolds = true := by
  refine State.faultHolds_mono (fun j held => ?_) holds
  by_cases same : j = k
  · subst same
    rw [s.fault_noted_same]
    simp only [FaultEntry.holds, FaultEntry.raised, Bool.and_eq_true, Bool.or_eq_true] at held ⊢
    exact ⟨held.1, held.2.imp .inl .inl⟩
  · rwa [s.fault_noted_ne same]

theorem HoldSet.isEmpty_false_of_fault {h : HoldSet} (fault : h.fault = true) : h.isEmpty = false := by
  simp [HoldSet.isEmpty, fault]

/-- A hold set with no FAULT in it is empty when the set it comes from is. -/
theorem HoldSet.isEmpty_of_fault_false {h : HoldSet} (empty : h.isEmpty = true) :
    HoldSet.isEmpty { h with fault := false } = true := by
  simp_all [HoldSet.isEmpty]

/-- With FAULT only added, a hold set that was not empty is not. -/
theorem HoldSet.filled_of_more {h : HoldSet} {fault : Bool} (filled : h.isEmpty = false)
    (more : h.fault = true → fault = true) : HoldSet.isEmpty { h with fault := fault } = false := by
  cases held : h.fault with
  | true => exact HoldSet.isEmpty_false_of_fault (more held)
  | false => simp_all [HoldSet.isEmpty]

/-- The raise of a kind with action HOLD, by the cell state (R146, R154). -/
theorem State.raise_holding {s : State} {k : FaultKind} (safe : HoldsSafe s) (on : (s.fault k).enabled = true)
    (action : (s.fault k).action = .hold) :
    (s.cell.state = .run → (s.raise k).faultHolds = true →
        (s.raise k).cell.state = .hold ∧ (s.raise k).cell.parkTimer = s.loadedPark)
      ∧ (¬ (s.cell.state = .run ∧ (s.raise k).faultHolds = true) → (s.raise k).cell.state = s.cell.state) := by
  obtain ⟨emptyInRun, filledInHold, fault⟩ := safe
  have stays : ¬ s.RaiseParks k := fun ⟨_, park, _⟩ => by simp [action] at park
  have table : (s.raise k).faultHolds = (s.noted k).faultHolds := by
    rw [State.raise_of_stays on stays, State.faultHolds_reevaluateFault]
  have raised : s.raise k = (s.noted k).setHolds { s.cell.holds with fault := (s.noted k).faultHolds } :=
    State.raise_of_stays on stays
  rw [table]
  constructor
  · intro run holds
    rw [raised, State.setHolds_toHold (s := s.noted k) run (emptyInRun run) (HoldSet.isEmpty_false_of_fault holds)]
    exact ⟨rfl, rfl⟩
  · intro quiet
    refine (congrArg (·.cell.state) raised).trans
      (congrArg (·.cell.state) (State.setHolds_stays (s := s.noted k) ?inRun ?inHold))
    case inRun =>
      rintro ⟨run, filled⟩
      have none_ : (s.noted k).faultHolds = false := Bool.eq_false_iff.mpr fun holds => quiet ⟨run, holds⟩
      rw [none_, HoldSet.isEmpty_of_fault_false (emptyInRun run)] at filled
      exact absurd filled (by decide)
    case inHold =>
      rintro ⟨hold, empty⟩
      have filled := HoldSet.filled_of_more (filledInHold hold) (fault := (s.noted k).faultHolds)
        fun held => State.faultHolds_of_noted k (fault ▸ held)
      exact absurd empty (by simp [filled])

/-- Settles O16, by the response of the kind: disabled, or enabled with its action. -/
theorem raisingAFaultCountsAndActs : Obligations.RaisingAFaultCountsAndActs := by
  intro s k safe
  obtain ⟨_, _, fault⟩ := id safe
  refine ⟨fun off => ?off, fun on => ?on⟩
  case off =>
    rw [State.raise_of_disabled off]
    refine State.reevaluateFault_same (fault.trans (State.faultHolds_of_holds fun j => ?_).symm)
    by_cases same : j = k
    · subst same
      simp [FaultEntry.holds, off]
    · rw [State.fault_modifyFault_ne _ _ same]
  case on =>
    obtain ⟨entry, last⟩ := s.raise_enabled on
    refine ⟨entry, fun j other => s.raise_fault_ne other, last, s.raise_posts on, s.raise_holds k, fun note => ?note,
      State.raise_holding safe on, fun park => ⟨fun working => ?parks, fun notRun notHold => ?idle⟩⟩
    case note =>
      have stays : ¬ s.RaiseParks k := fun ⟨_, park, _⟩ => by simp [note] at park
      rw [State.raise_eq_noted fault on (by simp [note]) stays]
      exact ⟨rfl, rfl⟩
    case parks =>
      obtain ⟨state, timer, store, stopped, window, _⟩ := State.raise_parks ⟨on, park, working⟩
      refine ⟨state, timer, Moves.stopped_rests stopped, fun g inWindow => ?_, store⟩
      rw [window] at inWindow
      obtain ⟨_, _, rfl⟩ := List.mem_map.mp inWindow
      rfl
    case idle =>
      have idle : ¬ s.working := fun working => working.elim notRun notHold
      exact ⟨(State.raise_idle idle k).1, (State.raise_stays fun parks => idle parks.2.2).1⟩

/-! ### The completion of a power-on or pin reset -/

/-- What an event set and an answer are after a posting: the same port with more kinds pending. -/
theorem State.Posts.enabled {s t : State} (posts : s.Posts t) (p : Port) :
    (t.port p).enabled = (s.port p).enabled ∧ (t.port p).answer = (s.port p).answer
      ∧ (t.port p).line = (s.port p).line := by
  obtain ⟨more, _, port⟩ := posts p
  rw [port]
  exact ⟨rfl, rfl, rfl⟩

/-- BIT_WORN at the end of a reset, whose cell does not work (R64). -/
theorem State.raiseWorn_idle {s : State} (idle : ¬ s.working) :
    s.raiseWorn.store = s.store ∧ s.raiseWorn.spindle = s.spindle ∧ s.raiseWorn.scheduler = s.scheduler
      ∧ s.raiseWorn.cell.state = s.cell.state ∧ s.raiseWorn.cell.parkTimer = s.cell.parkTimer := by
  unfold State.raiseWorn
  split
  · obtain ⟨store, spindle, scheduler⟩ := State.raise_stays (s := s) (k := .bitWorn) fun parks => idle parks.2.2
    exact ⟨store, spindle, scheduler, State.raise_idle idle _⟩
  · exact ⟨rfl, rfl, rfl, rfl, rfl⟩

theorem State.raiseWorn_keepsPending (s : State) : s.KeepsPending s.raiseWorn := by
  unfold State.raiseWorn
  split
  · exact s.raise_keepsPending _
  · exact .refl s

/-- A port right after a reset has RESET_DONE pending. -/
theorem State.isPending_resetDone {s : State} {p : Port} (events : (s.port p).events = resetEvents p) :
    s.isPending p .resetDone = true := by
  simp only [State.isPending, events, resetEvents]
  cases p <;> decide

end Sys2Proof.Machine

/-! PROOFS. What the resets leave (R1, R64, R167, R168, R173, R174). -/

namespace Sys2Proof.Machine

open Sys2Proof

/-! ### The completion of a power-on or pin reset -/

/-- The state that a start-up read completes with, before BIT_WORN is raised (R64, R173). -/
def State.readStore (s : State) (lines : Lines) : State :=
  let st := s.store
  let constants := if st.constantsValid then st.constants.contents else Constants.builtIn
  let record := if st.bitValid then st.bit.contents else BitRecord.builtIn
  let t := { s with
    constants := constants
    bit := { s.bit with record := record, worn := decide (record.params.endOfLife ≤ record.wear) }
    magazine := { s.magazine with register := if st.registerValid then st.register.contents else [] }
    cell := { s.cell with state := if st.constantsValid then CellState.standby else .unconfigured }
    store := { st with constantsFlags := { st.constantsFlags with foundValid := st.constantsValid }
                       bitFlags := { st.bitFlags with foundValid := st.bitValid }
                       registerFlags := { st.registerFlags with foundValid := st.registerValid }
                       writeProtect := lines.writeProtect }
    lines := { encoderA := lines.encoderA, encoderB := lines.encoderB, reference := lines.reference,
               seat := lines.seat, guard := lines.guard }
    starting := false }
  (t.defaultLimits.mapPorts PortState.complete).post .magazine .homingNeeded

theorem State.completeReset_eq (s : State) (lines : Lines) :
    s.completeReset lines = (s.readStore lines).raiseWorn := rfl

theorem State.readStore_idle (s : State) (lines : Lines) : ¬ (s.readStore lines).working := by
  rintro (run | hold)
  all_goals
    have state : (s.readStore lines).cell.state
      = if s.store.constantsValid then CellState.standby else .unconfigured := rfl
    split at state <;> simp_all

theorem State.port_mapPorts (s : State) (f : PortState → Port → PortState) (p : Port) :
    (s.mapPorts f).port p = f (s.port p) p := by
  cases p <;> rfl

/-- HOMING_NEEDED joins RESET_DONE on the magazine port after a reset, and every kind is enabled (R122, R167). -/
theorem State.resetPorts {s t : State} {f : PortState → Port → PortState}
    (posts : ((s.mapPorts f).post .magazine .homingNeeded).Posts t)
    (keeps : ((s.mapPorts f).post .magazine .homingNeeded).KeepsPending t)
    (events : ∀ v p, (f v p).events = resetEvents p) (enabled : ∀ v p, (f v p).enabled = allKinds p) :
    (∀ p, t.isPending p .resetDone = true ∧ (t.port p).enabled = allKinds p)
      ∧ t.isPending .magazine .homingNeeded = true := by
  refine ⟨fun p => ⟨keeps _ _ (State.post_keepsPending _ _ _ _ _ (State.isPending_resetDone ?_)), ?_⟩,
    keeps _ _ (State.isPending_post _ (by decide))⟩
  · rw [State.port_mapPorts, events]
  · rw [(posts.enabled p).1, (State.post_answer _ _ _ _).2.2, State.port_mapPorts, enabled]

theorem State.raiseWorn_posts (s : State) : s.Posts s.raiseWorn := State.Posts.raiseWorn (.refl s)

/-- BIT_WORN after a reset with a worn bit (R64). -/
theorem State.raiseWorn_worn {s : State} (worn : s.bit.worn = true) (on : (s.fault .bitWorn).enabled = true) :
    s.raiseWorn.fault .bitWorn = (s.fault .bitWorn).raised .bitWorn
      ∧ s.raiseWorn.isPending .cell .faultRaised = true := by
  have raised : s.raiseWorn = s.raise .bitWorn := if_pos worn
  rw [raised]
  exact ⟨(s.raise_enabled on).1, s.raise_posts on⟩

/-- Settles O11: the store is read into the working copies, and the raise of BIT_WORN changes none of them. -/
theorem startUpReadCompletesTheReset : Obligations.StartUpReadCompletesTheReset := by
  intro s lines
  refine ⟨fun up => by simp [exec, execStartUpReadEnd, up], fun down => ⟨s.completeReset lines, ?_, ?_⟩⟩
  · simp [exec, execStartUpReadEnd, down]
  rw [State.completeReset_eq]
  obtain ⟨store, spindle, scheduler, state, _⟩ := State.raiseWorn_idle (s.readStore_idle lines)
  have ports := State.resetPorts (s := { s.readStore lines with ports := s.ports }) (f := PortState.complete)
    (s.readStore lines).raiseWorn_posts (s.readStore lines).raiseWorn_keepsPending (fun _ _ => rfl) (fun _ _ => rfl)
  simp only [State.raiseWorn_frame, store, spindle, scheduler, state]
  refine ⟨rfl, rfl, rfl, rfl, rfl, rfl, rfl, rfl, rfl, rfl, rfl, rfl, rfl, ports.1, ports.2, fun worn on => ?_,
    rfl, rfl, rfl, rfl, rfl, rfl⟩
  obtain ⟨entry, posted⟩ := State.raiseWorn_worn (s := s.readStore lines) worn on
  exact ⟨by rw [entry]; simp [FaultEntry.raised, FaultKind.persistent], posted⟩

/-! ### The soft reset -/

/-- What a power-on and a pin reset leave is one value, field by field. -/
theorem powerOnAndPinResetEmptyThePart : Says.PowerOnAndPinResetEmptyThePart := fun _ => ⟨rfl, rfl⟩

/-- The soft reset before BIT_WORN is raised (R168, R174). -/
def State.emptied (s : State) : State :=
  let t := (s.emptyBlocks.defaultLimits).mapPorts PortState.softReset
  let state := if s.cell.state = CellState.unconfigured then CellState.unconfigured else .standby
  State.post { t with cell := { t.cell with state := state } } .magazine .homingNeeded

theorem State.softReset_eq (s : State) : s.softReset = s.emptied.raiseWorn := rfl

theorem State.emptied_idle (s : State) : ¬ s.emptied.working := by
  rintro (run | hold)
  all_goals
    have state : s.emptied.cell.state = if s.cell.state = .unconfigured then .unconfigured else .standby := rfl
    split at state <;> simp_all

/-- The statuses of a kind are cleared by a reset and its settings kept (R153). -/
theorem State.fault_emptied (s : State) (k : FaultKind) :
    s.emptied.fault k = { s.fault k with count := 0, active := false, latched := false } := by
  have table : s.emptied.cell.faults
      = s.cell.faults.map fun e => { e with count := 0, active := false, latched := false } := rfl
  simp [State.fault, table]

theorem cellResetIsTheSoftReset : Says.CellResetIsTheSoftReset := by
  intro s p reaches
  refine ⟨fun w writing => refuses_of_handler reaches rfl (by simp [writing]), fun free => ⟨s.softReset, ?_, ?_⟩⟩
  · exact answers_of_handler reaches rfl (by simp [free, Reply.bare])
  rw [State.softReset_eq]
  obtain ⟨store, spindle, scheduler, state, timer⟩ := State.raiseWorn_idle s.emptied_idle
  have ports := State.resetPorts (s := { s.emptied with ports := s.ports }) (f := PortState.softReset)
    s.emptied.raiseWorn_posts s.emptied.raiseWorn_keepsPending (fun _ _ => rfl) (fun _ _ => rfl)
  have answering (q : Port) : (s.emptied.raiseWorn.port q).answer = none
      ∧ (s.emptied.raiseWorn.port q).line = (s.port q).line := by
    obtain ⟨_, answer, line⟩ := s.emptied.raiseWorn_posts.enabled q
    rw [answer, line]
    cases q <;> exact ⟨rfl, rfl⟩
  simp only [State.raiseWorn_frame, store, spindle, scheduler, state, timer]
  refine ⟨rfl, rfl, rfl, rfl, rfl, rfl, fun i => ?none, rfl, rfl, rfl, rfl, rfl, rfl, rfl, rfl, rfl, rfl, rfl, rfl,
    fun k => ?settings, fun sharp => ?sharp, fun worn on => ?worn, fun q => ?port, ports.2, rfl⟩
  case none => exact Vector.getElem_replicate i.isLt
  case settings =>
    have entry := s.fault_emptied k
    unfold State.raiseWorn
    split
    · obtain ⟨enabled, action, latch⟩ := s.emptied.raise_settings .bitWorn k
      rw [enabled, action, latch, entry]
      exact ⟨rfl, rfl, rfl⟩
    · rw [entry]
      exact ⟨rfl, rfl, rfl⟩
  case sharp =>
    have same : s.emptied.raiseWorn = s.emptied := if_neg (Bool.eq_false_iff.mp sharp)
    rw [same]
    exact ⟨fun k => by rw [s.fault_emptied]; exact ⟨rfl, rfl, rfl⟩, rfl, rfl⟩
  case worn =>
    obtain ⟨entry, posted⟩ := State.raiseWorn_worn (s := s.emptied) worn (by rw [s.fault_emptied]; exact on)
    refine ⟨?_, ?_, posted⟩
    all_goals rw [entry, s.fault_emptied]; rfl
  case port => exact ⟨(answering q).1, (answering q).2, (ports.1 q).2, (ports.1 q).1⟩

/-- Settles O12, from what the resets leave before BIT_WORN is raised. -/
theorem resetsEmptyThePart : Obligations.ResetsEmptyThePart :=
  ⟨powerOnAndPinResetEmptyThePart, cellResetIsTheSoftReset⟩

end Sys2Proof.Machine

/-! PROOFS. CONSTANTS_WRITE, and the settings store (R80, R169 to R172). -/

namespace Sys2Proof.Machine

open Sys2Proof

/-! ### CONSTANTS_WRITE -/

/-- While no cutting is permitted before and after a change, the router is told nothing at its end (R25, R31). -/
theorem State.announce_unpermitted {before after : State} (bound : after.boundSlot = before.boundSlot)
    (insertion : after.insertion = before.insertion) (permittedBefore : before.permitted = false)
    (permittedAfter : after.permitted = false) : before.announce after = after := by
  have wanted : after.slotWanted = before.slotWanted := by simp [State.slotWanted, bound, insertion]
  have ready : after.slotReady = before.slotReady := by simp [State.slotReady, bound, insertion]
  simp only [State.announce, State.postIf, wanted, ready, permittedBefore, Bool.and_not_self, Bool.false_and,
    Bool.false_eq_true, if_false]
  simp [State.grantReady, permittedAfter]

/-- The end of a change that leaves panels, claim, magazine map and insertion control, and permits no cutting, is only
the store's. -/
theorem commit_eq_storeBegin_unpermitted {before after : State} (panels : after.panels = before.panels)
    (gripper : after.gripper = before.gripper) (magazine : after.magazine = before.magazine)
    (insertion : after.insertion = before.insertion) (permittedBefore : before.permitted = false)
    (permittedAfter : after.permitted = false) : commit before after = after.storeBegin := by
  have claim : after.gripper.claim = before.gripper.claim := by rw [gripper]
  unfold commit
  rw [State.refreshFull_quiet before after magazine, State.refreshWait_quiet before after panels claim magazine,
    State.handOver_quiet before after panels,
    State.announce_unpermitted (State.boundSlot_of panels claim) insertion permittedBefore permittedAfter]

theorem sectionOutside_iff (f : ConstantsSection) :
    sectionOutside f = true ↔ f.number = 0 ∨ 6 < f.number.toNat := by
  simp [sectionOutside]

theorem srAllowed_iff (sr : Byte) : srAllowed sr.toNat = true ↔ sr = 1 ∨ sr = 2 ∨ sr = 4 := by
  constructor
  · intro allowed
    simp only [srAllowed, Bool.and_eq_true, Bool.or_eq_true, beq_iff_eq, decide_eq_true_eq] at allowed
    obtain ⟨named, low, _⟩ := allowed
    have notEight : sr.toNat ≠ 8 := fun eight => by simp [eight, targetCount] at low
    have : sr.toNat = 1 ∨ sr.toNat = 2 ∨ sr.toNat = 4 := by omega
    simpa [BitVec.toNat_eq] using this
  · rintro (rfl | rfl | rfl) <;> decide

theorem Constants.replace_magazineType (c : Constants) (i : Fin 4) (count : Byte) (pitch base : Word24)
    (tolerance : Word16) :
    c.replace (.magazineType (BitVec.ofNat 8 (i.val + 1)) count pitch base tolerance) =
      if 1 ≤ count.toNat ∧ count.toNat ≤ 60 ∧ 16 ≤ pitch.toNat ∧ pitch.toNat ≤ 1048575 ∧ 1 ≤ tolerance.toNat
          ∧ tolerance.toNat ≤ 4095 then
        let type : MagType :=
          { slotCount := count.toNat, pitch16 := pitch.toNat, base := base, tolerance := tolerance.toNat }
        some { c with types := c.types.set i type }
      else none := by
  have named : fin4 (BitVec.ofNat 8 (i.val + 1)).toNat = some i :=
    fin4_of_eq_succ (by have := i.isLt; rw [BitVec.toNat_ofNat]; omega)
  simp only [Constants.replace, named, MagType.inRange, decide_eq_true_eq, and_assoc]

theorem Constants.replace_cell (c : Constants) (preset : Word24) (park seat : Word16) (hang bin : Byte) :
    c.replace (.cell preset park seat hang bin) =
      if park.toNat ≤ 600 ∧ 10 ≤ seat.toNat ∧ seat.toNat ≤ 500 ∧ 1 ≤ hang.toNat ∧ hang.toNat ≤ 8 ∧ 1 ≤ bin.toNat then
        some { c with homePreset := preset, parkDelay := park.toNat, seatSettle := seat.toNat,
                      defaultHangLimit := hang.toNat, defaultBinCapacity := bin.toNat }
      else none := by
  have byte : bin.toNat ≤ 255 := Nat.le_of_lt_succ bin.isLt
  simp only [Constants.replace, cellFieldsInRange, decide_eq_true_eq, and_assoc, byte, and_true]

/-- The ranges of section 5 as the request's own numbers (R80, R172). -/
theorem spindleInRange_iff (sr : Byte) (band coarse kickDuty : Nat) (kickTimeout : Word16)
    (startDuty rampRate settle miss stall : Nat) :
    let k : SpindleConstants :=
      { sr := sr.toNat, band := band, coarseStep := coarse, kickDuty := kickDuty, kickTimeout := kickTimeout.toNat,
        startDuty := startDuty, rampRate := rampRate, settleLimit := settle, missDepth := miss, stallDepth := stall }
    k.inRange = true ↔
      (sr = 1 ∨ sr = 2 ∨ sr = 4) ∧ 1 ≤ band ∧ band ≤ 32 ∧ 1 ≤ coarse ∧ coarse ≤ 64
        ∧ kickDuty ≤ 1023 ∧ (kickTimeout = 500 ∨ kickTimeout = 1000 ∨ kickTimeout = 2000 ∨ kickTimeout = 4000)
        ∧ startDuty ≤ 1023 ∧ 10 ≤ rampRate ∧ rampRate ≤ 2000 ∧ 1 ≤ settle ∧ settle ≤ 60 ∧ 1 ≤ miss ∧ miss ≤ 8
        ∧ 1 ≤ stall ∧ stall ≤ 8 := by
  have timeout : (kickTimeout.toNat = 500 ∨ kickTimeout.toNat = 1000 ∨ kickTimeout.toNat = 2000
      ∨ kickTimeout.toNat = 4000) ↔ (kickTimeout = 500 ∨ kickTimeout = 1000 ∨ kickTimeout = 2000 ∨ kickTimeout = 4000) := by
    simp [BitVec.toNat_eq]
  simp only [SpindleConstants.inRange, Bool.and_eq_true, Bool.or_eq_true, beq_iff_eq, decide_eq_true_eq,
    srAllowed_iff, or_assoc, timeout, and_assoc]
  constructor
  · rintro ⟨named, time, band1, band2, coarse1, coarse2, kick, rest⟩
    exact ⟨named, band1, band2, coarse1, coarse2, kick, time, rest⟩
  · rintro ⟨named, band1, band2, coarse1, coarse2, kick, time, rest⟩
    exact ⟨named, time, band1, band2, coarse1, coarse2, kick, rest⟩

theorem Constants.replace_spindle (c : Constants) (sr band coarse : Byte) (kickDuty kickTimeout startDuty rampRate : Word16)
    (settle miss stall : Byte) :
    c.replace (.spindle sr band coarse kickDuty kickTimeout startDuty rampRate settle miss stall) =
      if (sr = 1 ∨ sr = 2 ∨ sr = 4) ∧ 1 ≤ band.toNat ∧ band.toNat ≤ 32 ∧ 1 ≤ coarse.toNat ∧ coarse.toNat ≤ 64
          ∧ kickDuty.toNat ≤ 1023 ∧ (kickTimeout = 500 ∨ kickTimeout = 1000 ∨ kickTimeout = 2000 ∨ kickTimeout = 4000)
          ∧ startDuty.toNat ≤ 1023 ∧ 10 ≤ rampRate.toNat ∧ rampRate.toNat ≤ 2000 ∧ 1 ≤ settle.toNat
          ∧ settle.toNat ≤ 60 ∧ 1 ≤ miss.toNat ∧ miss.toNat ≤ 8 ∧ 1 ≤ stall.toNat ∧ stall.toNat ≤ 8 then
        let spindle : SpindleConstants :=
          { sr := sr.toNat, band := band.toNat, coarseStep := coarse.toNat, kickDuty := kickDuty.toNat,
            kickTimeout := kickTimeout.toNat, startDuty := startDuty.toNat, rampRate := rampRate.toNat,
            settleLimit := settle.toNat, missDepth := miss.toNat, stallDepth := stall.toNat }
        some { c with spindle := spindle }
      else none :=
  if_congr (spindleInRange_iff sr _ _ _ kickTimeout _ _ _ _ _) rfl rfl

/-- New constants are in force at the end of the write, and nothing else changes but the cell state and the store. -/
theorem commit_putConstants {s : State} (idle : s.cell.state = .standby ∨ s.cell.state = .unconfigured) (c : Constants) :
    commit s (s.putConstants c) = State.storeBegin { s with constants := c, cell := { s.cell with state := .standby } } := by
  refine commit_eq_storeBegin_unpermitted rfl rfl rfl rfl (State.permitted_of_state ?_)
    (State.permitted_of_state (s := s.putConstants c) (by simp [State.putConstants]))
  rcases idle with state | state <;> simp [state]

/-- Settles O13, by the checks in their order, and the three kinds of section. -/
theorem constantsWriteReplacesOneSection : Obligations.ConstantsWriteReplacesOneSection := by
  intro s p f reaches formed
  refine ⟨fun outside => ?outside, fun low high => ?inside, ?type, ?cell, ?spindle⟩
  case outside => exact refuses_of_handler reaches rfl (if_pos ((sectionOutside_iff f).mpr outside))
  case inside =>
    have nonzero : f.number ≠ 0 := by rintro zero; simp [zero] at low
    have within : ¬ sectionOutside f = true := fun outside =>
      ((sectionOutside_iff f).mp outside).elim nonzero fun above => by omega
    refine ⟨fun notStandby notUnconfigured => ?_, fun idle => ⟨fun invalid => ?_, fun c valid => ?_⟩⟩
    · exact refuses_of_handler reaches rfl ((if_neg within).trans (if_pos ⟨notStandby, notUnconfigured⟩))
    · have state : ¬ (s.cell.state ≠ .standby ∧ s.cell.state ≠ .unconfigured) := by tauto
      exact refuses_of_handler reaches rfl ((if_neg within).trans ((if_neg state).trans (by rw [invalid])))
    · have state : ¬ (s.cell.state ≠ .standby ∧ s.cell.state ≠ .unconfigured) := by tauto
      refine answers_of_handler reaches rfl ((if_neg within).trans ((if_neg state).trans ?_))
      rw [valid]
      simp only [accept, conclude, commit_putConstants idle]
  case type =>
    rintro i count pitch base tolerance rfl
    exact s.constants.replace_magazineType i count pitch base tolerance
  case cell =>
    rintro preset park seat hang bin rfl
    exact s.constants.replace_cell preset park seat hang bin
  case spindle =>
    rintro sr band coarse kickDuty kickTimeout startDuty rampRate settle miss stall rfl
    exact s.constants.replace_spindle sr band coarse kickDuty kickTimeout startDuty rampRate settle miss stall

end Sys2Proof.Machine

/-! PROOFS. The settings store: a save asked for or queued, a write begun, a write ended (R169 to R171). -/

namespace Sys2Proof.Machine

open Sys2Proof

/-! ### A write begun -/

/-- The state t is s with a write of record r begun (R170). -/
def State.BeginsWrite (s : State) (r : RecordId) (t : State) : Prop :=
  t.store.writing = some { record := r, explicit := (s.store.flags r).explicit }
    ∧ t.store.flags r = { s.store.flags r with pending := false, explicit := false }
    ∧ (∀ q, q ≠ r → t.store.flags q = s.store.flags q) ∧ t.store.writeProtect = s.store.writeProtect
    ∧ t.store.constants = (if r = .constants then { marker := false, contents := s.constants } else s.store.constants)
    ∧ t.store.bit = (if r = .bit then { marker := false, contents := s.bit.record } else s.store.bit)
    ∧ t.store.register =
        (if r = .register then { marker := false, contents := s.magazine.register } else s.store.register)

theorem State.storeBegin_of_writing {s : State} {w : StoreWrite} (writing : s.store.writing = some w) :
    s.storeBegin = s := by
  simp [State.storeBegin, writing]

theorem State.storeBegin_of_none {s : State} (next : s.store.nextWrite = none) : s.storeBegin = s :=
  State.storeBegin_quiet s fun _ => next

theorem State.storeBegin_begins {s : State} {r : RecordId} (free : s.store.writing = none)
    (next : s.store.nextWrite = some r) : s.BeginsWrite r s.storeBegin := by
  simp only [State.storeBegin, free, next]
  cases r with
  | constants =>
      refine ⟨rfl, rfl, fun q other => ?_, rfl, rfl, rfl, rfl⟩
      cases q with
      | constants => exact absurd rfl other
      | bit | register => rfl
  | bit =>
      refine ⟨rfl, rfl, fun q other => ?_, rfl, rfl, rfl, rfl⟩
      cases q with
      | bit => exact absurd rfl other
      | constants | register => rfl
  | register =>
      refine ⟨rfl, rfl, fun q other => ?_, rfl, rfl, rfl, rfl⟩
      cases q with
      | register => exact absurd rfl other
      | constants | bit => rfl

/-- A store either stays or begins the write of one record. -/
theorem State.storeBegin_cases (s : State) : s.storeBegin = s ∨ ∃ r, s.BeginsWrite r s.storeBegin := by
  cases writing : s.store.writing with
  | some w => exact .inl (State.storeBegin_of_writing writing)
  | none =>
      cases next : s.store.nextWrite with
      | none => exact .inl (State.storeBegin_of_none next)
      | some r => exact .inr ⟨r, State.storeBegin_begins writing next⟩

theorem freeStoreBeginsAWrite : Says.FreeStoreBeginsAWrite := by
  intro s
  refine ⟨by simp, fun w writing => State.storeBegin_of_writing writing, fun free => ⟨fun constants => ?_,
    fun noConstants => ⟨fun bit => ?_, fun noBit => ⟨fun register => ?_, fun noRegister => ?_⟩⟩⟩⟩
  · exact State.storeBegin_begins free (by simp [Store.nextWrite, Store.flags, constants])
  · exact State.storeBegin_begins free (by simp [Store.nextWrite, Store.flags, noConstants, bit])
  · exact State.storeBegin_begins free (by simp [Store.nextWrite, Store.flags, noConstants, noBit, register])
  · exact State.storeBegin_of_none (by simp [Store.nextWrite, Store.flags, noConstants, noBit, noRegister])

/-! ### A save asked for -/

theorem automaticSaveSetsThePendingFlag : Says.AutomaticSaveSetsThePendingFlag := by
  intro s r
  refine ⟨fun protected_ => by simp [State.queueSave, protected_], fun open_ => ?_⟩
  simp [State.queueSave, open_, State.setPending]

theorem recordIdOf_number (r : RecordId) : recordIdOf r.number = some r := by cases r <;> rfl

theorem storeSaveQueuesAnExplicitSave : Says.StoreSaveQueuesAnExplicitSave := by
  intro s p k reaches
  refine ⟨?read, fun above => ?above, fun r number => ⟨fun protected_ => ?protected_, fun open_ => ?queued⟩⟩
  case read =>
    rintro rfl
    exact answers_of_handler reaches rfl rfl
  case above =>
    have nonzero : k ≠ 0#8 := by rintro rfl; simp at above
    have unnamed : recordIdOf k.toNat = none := by
      simp only [recordIdOf]
      rw [if_neg (by omega), if_neg (by omega), if_neg (by omega)]
    exact refuses_of_handler reaches rfl (by simp [nonzero, unnamed])
  all_goals
    have nonzero : k ≠ 0#8 := by
      rintro rfl
      cases r <;> simp [RecordId.number] at number
    have named : recordIdOf k.toNat = some r := by rw [number, recordIdOf_number]
  case protected_ => exact answers_of_handler reaches rfl (by simp [nonzero, named, protected_])
  case queued =>
    have explicit : s.setPending r true
        = { s with store := s.store.setFlags r { s.store.flags r with pending := true, explicit := true } } := by
      simp [State.setPending]
    have ends : commit s (s.setPending r true) = (s.setPending r true).storeBegin := by
      refine commit_eq_storeBegin ?_ ?_ ?_ ?_ ?_ (State.grantView_of ?_ ?_ ?_ ?_ ?_ ?_)
      case refine_5 => simp [State.permitted]
      all_goals simp
    rw [← explicit]
    exact answers_of_handler reaches rfl (by simp [nonzero, named, open_, accept, conclude, ends])

/-! ### A write ended -/

/-- A marker that is absent is not written by the beginning of a write, and no outcome changes. -/
theorem State.storeBegin_kept (s : State) :
    (s.store.constants.marker = false → s.storeBegin.store.constants.marker = false)
      ∧ (s.store.bit.marker = false → s.storeBegin.store.bit.marker = false)
      ∧ (s.store.register.marker = false → s.storeBegin.store.register.marker = false)
      ∧ ∀ q, (s.storeBegin.store.flags q).outcome = (s.store.flags q).outcome := by
  rcases s.storeBegin_cases with same | ⟨r, _, flags, others, _, constants, bit, register⟩
  · rw [same]
    exact ⟨id, id, id, fun _ => rfl⟩
  · refine ⟨fun absent => ?_, fun absent => ?_, fun absent => ?_, fun q => ?_⟩
    · rw [constants]; split <;> simp [absent]
    · rw [bit]; split <;> simp [absent]
    · rw [register]; split <;> simp [absent]
    · by_cases same : q = r
      · subst same; rw [flags]
      · rw [others q same]

theorem State.queueSave_kept (s : State) (r : RecordId) :
    (s.queueSave r).store.constants = s.store.constants ∧ (s.queueSave r).store.bit = s.store.bit
      ∧ (s.queueSave r).store.register = s.store.register
      ∧ ∀ q, ((s.queueSave r).store.flags q).outcome = (s.store.flags q).outcome := by
  unfold State.queueSave
  split
  · exact ⟨rfl, rfl, rfl, fun _ => rfl⟩
  · refine ⟨?_, ?_, ?_, fun q => ?_⟩
    · cases r <;> rfl
    · cases r <;> rfl
    · cases r <;> rfl
    · cases r <;> cases q <;> rfl

theorem State.endWrite_failed (s : State) (w : StoreWrite) :
    s.endWrite w false = ((s.writeEnded w false).raise .storeFailure).postIf w.explicit .cell .storeDone := rfl

theorem State.endWrite_done (s : State) (w : StoreWrite) :
    s.endWrite w true = (s.writeEnded w true).postIf w.explicit .cell .storeDone := rfl

/-- The record whose write failed has no marker, and its outcome says so (R170). -/
theorem State.writeEnded_failed (s : State) (w : StoreWrite) :
    (w.record = .constants → (s.writeEnded w false).store.constants.marker = false)
      ∧ (w.record = .bit → (s.writeEnded w false).store.bit.marker = false)
      ∧ (w.record = .register → (s.writeEnded w false).store.register.marker = false)
      ∧ ((s.writeEnded w false).store.flags w.record).outcome = .failed := by
  obtain ⟨r, explicit⟩ := w
  cases r <;> simp [Store.setMarker, Store.setFlags, Store.flags]

/-- What a failed write leaves in the store, parked or not: no marker, and the outcome. -/
theorem failedWrite_kept {s u : State} {w : StoreWrite}
    (store : u.store = (s.writeEnded w false).store ∨ u.store = ((s.writeEnded w false).queueSave .bit).store) :
    (w.record = .constants → u.storeBegin.store.constants.marker = false)
      ∧ (w.record = .bit → u.storeBegin.store.bit.marker = false)
      ∧ (w.record = .register → u.storeBegin.store.register.marker = false)
      ∧ (u.storeBegin.store.flags w.record).outcome = .failed := by
  obtain ⟨constants, bit, register, outcome⟩ := s.writeEnded_failed w
  obtain ⟨keptConstants, keptBit, keptRegister, keptOutcome⟩ := u.storeBegin_kept
  obtain ⟨queuedConstants, queuedBit, queuedRegister, queuedOutcome⟩ := (s.writeEnded w false).queueSave_kept .bit
  rcases store with same | queued
  · rw [same] at keptConstants keptBit keptRegister
    exact ⟨fun r => keptConstants (constants r), fun r => keptBit (bit r), fun r => keptRegister (register r),
      by rw [keptOutcome, same, outcome]⟩
  · rw [queued] at keptConstants keptBit keptRegister
    rw [queuedConstants] at keptConstants
    rw [queuedBit] at keptBit
    rw [queuedRegister] at keptRegister
    exact ⟨fun r => keptConstants (constants r), fun r => keptBit (bit r), fun r => keptRegister (register r),
      by rw [keptOutcome, queued, queuedOutcome, outcome]⟩

theorem commit_self (s : State) : commit s s = s.storeBegin := commit_eq_storeBegin rfl rfl rfl rfl rfl rfl

theorem exec_storeWriteEnd {s : State} (up : s.starting = false) {w : StoreWrite} (writing : s.store.writing = some w)
    (ok : Bool) : exec (.storeWriteEnd ok) s = .next (commit s (s.endWrite w ok)) := by
  simp [exec, execStoreWriteEnd, State.event_up _ _ up, writing]

/-- A write that ended well. -/
theorem writeEndsDone {s : State} (up : s.starting = false) {w : StoreWrite} (writing : s.store.writing = some w) :
    ∃ t, exec (.storeWriteEnd true) s = .next t ∧ t.store = (s.writeEnded w true).storeBegin.store
      ∧ (w.explicit = true → t.isPending .cell .storeDone = true)
      ∧ { t with store := s.store, ports := s.ports } = s := by
  obtain ⟨magazine, gripper, spindle⟩ := commit_quiet s (s.endWrite w true) (by simp [State.endWrite_done])
    (by simp [State.endWrite_done]) (by simp [State.endWrite_done])
  refine ⟨_, exec_storeWriteEnd up writing true, ?store, fun explicit => ?told, ?frame⟩
  case store =>
    rw [commit_store]
    apply State.storeBegin_store <;> simp [State.endWrite_done]
  case told =>
    refine commit_keepsPending _ _ _ _ ?_
    rw [State.endWrite_done, State.postIf, if_pos explicit]
    exact State.isPending_post _ (by decide)
  case frame =>
    rw [State.endWrite_done] at magazine gripper spindle ⊢
    simp [magazine, gripper, spindle]

/-- A write that failed. -/
theorem writeEndsFailed {s : State} (up : s.starting = false) {w : StoreWrite} (writing : s.store.writing = some w) :
    ∃ t, exec (.storeWriteEnd false) s = .next t
      ∧ (let parks := (s.fault .storeFailure).enabled = true ∧ (s.fault .storeFailure).action = .park ∧ s.working
         (parks → t.store = ((s.writeEnded w false).queueSave .bit).storeBegin.store ∧ t.cell.state = .park)
           ∧ (¬ parks → t.store = (s.writeEnded w false).storeBegin.store))
      ∧ (w.record = .constants → t.store.constants.marker = false)
      ∧ (w.record = .bit → t.store.bit.marker = false)
      ∧ (w.record = .register → t.store.register.marker = false)
      ∧ (t.store.flags w.record).outcome = .failed
      ∧ (w.explicit = true → t.isPending .cell .storeDone = true)
      ∧ ((s.fault .storeFailure).enabled = true →
          (t.fault .storeFailure).count = min 255 ((s.fault .storeFailure).count + 1)
          ∧ t.isPending .cell .faultRaised = true)
      ∧ t.bit = s.bit ∧ t.constants = s.constants ∧ t.magazine = s.magazine ∧ t.panels = s.panels := by
  let ended := s.writeEnded w false
  let raised := (ended.raise .storeFailure).postIf w.explicit .cell .storeDone
  have failed : s.endWrite w false = raised := rfl
  obtain ⟨magazine, _, _⟩ := commit_quiet s raised (by simp [raised, ended]) (by simp [raised, ended])
    (by simp [raised, ended])
  have store : (commit s raised).store = raised.storeBegin.store := commit_store s raised
  have parked (parks : ended.RaiseParks .storeFailure) : raised.store = (ended.queueSave .bit).store := by
    simpa [raised] using (State.raise_parks parks).2.2.1
  have stayed (stays : ¬ ended.RaiseParks .storeFailure) : raised.store = ended.store := by
    simpa [raised] using (State.raise_stays stays).1
  have kept := failedWrite_kept (s := s) (w := w) (u := raised)
    ((Classical.em (ended.RaiseParks .storeFailure)).symm.imp stayed parked)
  rw [← store] at kept
  obtain ⟨constants, bit, register, outcome⟩ := kept
  have exec_eq := exec_storeWriteEnd up writing false
  rw [failed] at exec_eq
  refine ⟨_, exec_eq, ⟨fun parks => ⟨?parkStore, ?park⟩, fun stays => ?stays⟩, constants, bit, register, outcome,
    fun explicit => ?told, fun on => ⟨?count, ?posted⟩, by simp [raised, ended], by simp [raised, ended], ?magazine,
    by simp [raised, ended]⟩
  case parkStore =>
    rw [store]
    exact State.storeBegin_store (parked parks) (by simp [raised, ended]) (by simp [raised, ended])
      (by simp [raised, ended])
  case park => simpa [raised] using (State.raise_parks (s := ended) parks).1
  case stays =>
    rw [store]
    exact State.storeBegin_store (stayed stays) (by simp [raised, ended]) (by simp [raised, ended])
      (by simp [raised, ended])
  case told =>
    refine commit_keepsPending _ _ _ _ ?_
    simp only [raised, State.postIf, if_pos explicit]
    exact State.isPending_post _ (by decide)
  case count =>
    have table : (commit s raised).cell.faults = (ended.raise .storeFailure).cell.faults := by simp [raised]
    rw [State.fault_of_faults table, (ended.raise_enabled on).1]
    rfl
  case posted =>
    exact commit_keepsPending _ _ _ _ (State.postIf_keepsPending _ _ _ _ _ _ (ended.raise_posts on))
  case magazine => simpa [raised, ended] using magazine

theorem storeWriteEnds : Says.StoreWriteEnds := by
  intro s up
  refine ⟨fun ok free => ?_, fun w writing => ⟨writeEndsDone up writing, writeEndsFailed up writing⟩⟩
  simp [exec, execStoreWriteEnd, State.event_up _ _ up, free, commit_self]

/-- Settles O14, by the record whose write begins and by whether a failure parks the cell. -/
theorem storeSavesAndWrites : Obligations.StoreSavesAndWrites :=
  ⟨storeSaveQueuesAnExplicitSave, freeStoreBeginsAWrite, automaticSaveSetsThePendingFlag, storeWriteEnds⟩

end Sys2Proof.Machine

/-! PROOFS. The park timer and the guard, FAULT_RESPONSE, and SET_LIMITS (R147, R149, R150, R155, R157). -/

namespace Sys2Proof.Machine

open Sys2Proof

/-! ### The park timer and the guard -/

theorem SpindleStopped.of_rest {s t : State} (stopped : SpindleStopped s t) : t.spindle.state.turning = false :=
  Moves.stopped_rests stopped

/-- A stop of the spindle loop revokes the window if the loop turned (R91). -/
theorem State.stopSpindle_scheduler (s : State) :
    s.stopSpindle.scheduler = if s.spindle.state.turning then s.revokeAll.scheduler else s.scheduler := by
  unfold State.stopSpindle
  split
  · rw [State.revokeAll_scheduler, State.revokeAll_scheduler]
  · rfl

/-- A stop of the spindle loop and then the entry to PARK: the window is revoked once, and the router told. -/
theorem WindowRevoked.of_stopped {u t : State} (park : WindowRevoked u.stopSpindle t)
    (keeps : u.stopSpindle.KeepsPending t) : WindowRevoked u t := by
  obtain ⟨window, told⟩ := park
  cases turning : u.spindle.state.turning with
  | false =>
      have still : u.stopSpindle = u := by simp [State.stopSpindle, turning]
      rw [still] at window told
      exact ⟨window, told⟩
  | true =>
      have scheduler := u.stopSpindle_scheduler
      rw [if_pos turning, State.revokeAll_scheduler] at scheduler
      refine ⟨?_, fun live => keeps _ _ ?_⟩
      · rw [window, scheduler]
        simp [List.map_map, Function.comp_def]
      · simp only [State.stopSpindle, turning, if_true]
        exact State.revokeAll_posts live

theorem State.stopSpindle_still {s : State} (rest : s.spindle.state.turning = false) : s.stopSpindle = s := by
  simp [State.stopSpindle, rest]

/-- The guard's opening parks a working cell with all the effects of R149, whether or not the spindle turned. -/
theorem openGuard_parks {s : State} (working : s.working) :
    ParkEntered { s with lines := { s.lines with guard := false } } (commit s s.openGuard) := by
  let u : State := { s with lines := { s.lines with guard := false } }
  have parked : s.openGuard = (u.stopSpindle.broughtToRest .park).queueSave .bit :=
    State.parkIfActive_working (s := u.stopSpindle) (by simpa [State.working, u] using working)
  obtain ⟨magazine, gripper, spindle⟩ := commit_quiet s s.openGuard (by simp) (by simp) (by simp)
  have stopped : SpindleStopped u u.stopSpindle := u.stopSpindle_spindle
  rw [parked] at magazine gripper spindle ⊢
  refine ⟨by simp [u], WindowRevoked.commit ?window, ?spindle, ?store, fun permitted => ?told, ?frame⟩
  case window =>
    refine WindowRevoked.of_stopped ((u.stopSpindle.broughtToRest_window .park).of_queueSave .bit) ?_
    exact State.enterPark_keepsPending u.stopSpindle
  case spindle =>
    have rest : SpindleStopped u.stopSpindle (u.stopSpindle.broughtToRest .park) :=
      u.stopSpindle.broughtToRest_spindle .park
    rw [SpindleStopped, if_neg (by simp [SpindleStopped.of_rest stopped])] at rest
    have queued : ((u.stopSpindle.broughtToRest .park).queueSave .bit).spindle = u.stopSpindle.spindle := by
      simpa using rest
    rw [SpindleStopped, spindle, queued]
    exact stopped
  case store =>
    rw [commit_store]
    refine State.storeBegin_store (State.queueSave_store .bit (by simp [u])) ?_ ?_ ?_ <;> simp [u]
  case told => exact commit_posts_cuttingStopped (before := s) permitted (by simp)
  case frame => simp [magazine, gripper, u]

/-- Settles O18, by the timer, the level of the guard line and whether the cell works. -/
theorem parkTimerAndGuardActOnTheCell : Obligations.ParkTimerAndGuardActOnTheCell := by
  intro s up
  refine ⟨fun none_ => ?_, fun x running => ⟨commit s s.enterPark, ?_, commit_enterPark s⟩, ?_, fun low => ?_,
    fun high => ⟨fun working => ⟨commit s s.openGuard, ?_, openGuard_parks working⟩, fun idle safe => ?_⟩⟩
  · simp [exec, execParkTimer, State.event_up _ _ up, none_, commit_self]
  · simp [exec, execParkTimer, State.event_up _ _ up, running]
  · simp only [exec, execGuardCloses, State.event_up _ _ up]
    exact congrArg _ (commit_eq_storeBegin rfl rfl rfl rfl rfl rfl)
  · simp [exec, execGuardOpens, State.event_up _ _ up, low, commit_self]
  · simp [exec, execGuardOpens, State.event_up _ _ up, high]
  · have rest : s.spindle.state.turning = false := safe.2.1 (.inl idle)
    have opened : s.openGuard = { s with lines := { s.lines with guard := false } } := by
      have still := State.stopSpindle_still (s := { s with lines := { s.lines with guard := false } }) rest
      rw [State.openGuard, still]
      exact State.parkIfActive_idle idle
    simp only [exec, execGuardOpens, State.event_up _ _ up, high, if_true, opened]
    exact congrArg _ (commit_eq_storeBegin rfl rfl rfl rfl rfl rfl)

/-! ### FAULT_RESPONSE -/

/-- The table with the three settings of a kind replaced (R155). -/
def State.withResponse (s : State) (k : FaultKind) (on : Bool) (act : FaultAction) (keep : Bool) : State :=
  s.modifyFault k fun e => { e with enabled := on, action := act, latch := keep }

/-- The kind is switched on by the request while its condition is active, so it is raised (R155). -/
def State.SwitchedOn (s : State) (k : FaultKind) (on : Bool) : Prop :=
  on = true ∧ (s.fault k).enabled = false ∧ k.persistent = true ∧ (s.fault k).active = true

theorem State.setResponse_quiet {s : State} {k : FaultKind} {on : Bool} (act : FaultAction) (keep : Bool)
    (quiet : ¬ s.SwitchedOn k on) : s.setResponse k on act keep = (s.withResponse k on act keep).reevaluateFault := by
  have off : ¬ (on && !(s.fault k).enabled && k.persistent && (s.fault k).active) = true := by
    simpa [State.SwitchedOn, and_assoc] using quiet
  exact if_neg off

theorem State.setResponse_switched {s : State} {k : FaultKind} {on : Bool} (act : FaultAction) (keep : Bool)
    (switched : s.SwitchedOn k on) :
    s.setResponse k on act keep = (s.withResponse k on act keep).reevaluateFault.raise k := by
  have raises : (on && !(s.fault k).enabled && k.persistent && (s.fault k).active) = true := by
    simpa [State.SwitchedOn, and_assoc] using switched
  exact if_pos raises

theorem State.fault_withResponse_same (s : State) (k : FaultKind) (on : Bool) (act : FaultAction) (keep : Bool) :
    (s.withResponse k on act keep).reevaluateFault.fault k
      = { s.fault k with enabled := on, action := act, latch := keep } := by
  rw [State.fault_reevaluateFault]
  exact s.fault_modifyFault k _

theorem State.fault_setResponse_ne (s : State) {j k : FaultKind} (on : Bool) (act : FaultAction) (keep : Bool)
    (other : j ≠ k) : (s.setResponse k on act keep).fault j = s.fault j := by
  have settings : (s.withResponse k on act keep).reevaluateFault.fault j = s.fault j := by
    rw [State.fault_reevaluateFault]
    exact s.fault_modifyFault_ne _ other
  by_cases switched : s.SwitchedOn k on
  · rw [State.setResponse_switched act keep switched, State.raise_fault_ne _ other, settings]
  · rw [State.setResponse_quiet act keep switched, settings]

theorem State.setResponse_holds (s : State) (k : FaultKind) (on : Bool) (act : FaultAction) (keep : Bool) :
    (s.setResponse k on act keep).cell.holds
      = { s.cell.holds with fault := (s.setResponse k on act keep).faultHolds } := by
  have settings := (s.withResponse k on act keep).reevaluateFault_holds
  by_cases switched : s.SwitchedOn k on
  · rw [State.setResponse_switched act keep switched, State.raise_holds, settings]
    rfl
  · rw [State.setResponse_quiet act keep switched]
    exact settings

theorem actionOf_outside {b : Byte} (outside : 2 < b.toNat) : actionOf b = none := by
  have other : b ≠ 0#8 ∧ b ≠ 1#8 ∧ b ≠ 2#8 := by refine ⟨?_, ?_, ?_⟩ <;> (rintro rfl; simp at outside)
  simp [actionOf, other]

theorem bne_zero_eq (b : Byte) : (b != 0) = decide (b ≠ 0) := by
  rw [Bool.eq_iff_iff]; simp

/-- Settles O19, by the checks in their order and by whether the kind is switched on. -/
theorem faultResponseReplacesTheSettings : Obligations.FaultResponseReplacesTheSettings := by
  intro s p kind enable action latch reaches safe
  obtain ⟨_, filledInHold, _⟩ := safe
  refine ⟨fun outside => refuses_of_handler reaches rfl ?outside, fun k act number named =>
    ⟨fun run => refuses_of_handler reaches rfl ?run, fun notRun => ?accepted⟩⟩
  case outside =>
    cases act : actionOf action with
    | none => rfl
    | some act =>
        have kindOutside : kind.toNat < 1 ∨ 12 < kind.toNat :=
          outside.resolve_left fun above => by simp [actionOf_outside above] at act
        rw [faultOf_outside kindOutside]
  case run => simp [named, number, faultOf_number, run]
  case accepted =>
    let u := s.setResponse k (decide (enable ≠ 0)) act (decide (latch ≠ 0))
    have cell : (commit s u).cell = u.cell := by simp
    have table := congrArg (·.faults) cell
    obtain ⟨magazine, _, spindle⟩ := commit_quiet s u (by simp [u]) (by simp [u]) (by simp [u])
    refine ⟨commit s u, ?answer, fun j other => ?others, ?holds, by simp [u], by simp [u], magazine.trans (by simp [u]),
      by simp [u], fun quiet => ?quiet, fun switched => ?switched⟩
    case answer =>
      refine answers_of_handler reaches rfl ?_
      simp only [named, number, faultOf_number, if_neg notRun, bne_zero_eq]
      rfl
    case others =>
      rw [State.fault_of_faults table]
      exact s.fault_setResponse_ne _ _ _ other
    case holds =>
      rw [State.faultHolds_of_faults table, cell]
      exact s.setResponse_holds _ _ _ _
    case quiet =>
      have stays : ¬ s.SwitchedOn k (decide (enable ≠ 0)) := by simpa [State.SwitchedOn] using quiet
      have eq : u = (s.withResponse k (decide (enable ≠ 0)) act (decide (latch ≠ 0))).reevaluateFault :=
        State.setResponse_quiet _ _ stays
      refine ⟨?_, by rw [spindle, eq]; simp [State.withResponse], by simp [eq, State.withResponse], ?_, ?_⟩
      · rw [State.fault_of_faults table, eq, State.fault_withResponse_same]
      · rw [cell, eq]
        exact State.setHolds_lastRaised _ _
      · have after := State.setHolds_state
          (s := s.withResponse k (decide (enable ≠ 0)) act (decide (latch ≠ 0)))
          (h := { s.cell.holds with
            fault := (s.withResponse k (decide (enable ≠ 0)) act (decide (latch ≠ 0))).faultHolds })
          (fun run => absurd run notRun) filledInHold
        have holds : u.cell.holds = { s.cell.holds with
            fault := (s.withResponse k (decide (enable ≠ 0)) act (decide (latch ≠ 0))).faultHolds } := by
          rw [eq]; exact State.setHolds_holds _ _
        rw [cell, holds, eq]
        exact after
    case switched =>
      have on : s.SwitchedOn k (decide (enable ≠ 0)) := by simpa [State.SwitchedOn] using switched
      obtain ⟨nonzero, off, persistent, active⟩ := on
      let v := (s.withResponse k (decide (enable ≠ 0)) act (decide (latch ≠ 0))).reevaluateFault
      have eq : u = v.raise k := State.setResponse_switched _ _ ⟨nonzero, off, persistent, active⟩
      have entry : v.fault k = { s.fault k with
          enabled := decide (enable ≠ 0), action := act, latch := decide (latch ≠ 0) } :=
        s.fault_withResponse_same _ _ _ _
      have enabled : (v.fault k).enabled = true := by rw [entry]; exact nonzero
      obtain ⟨raised, last⟩ := v.raise_enabled enabled
      refine ⟨?_, by rw [cell, eq, last], commit_keepsPending _ _ _ _ ?_, fun park hold => ?_⟩
      · rw [State.fault_of_faults table, eq, raised, entry]
        simp [FaultEntry.raised, active]
      · rw [eq]
        exact v.raise_posts enabled
      · have works : v.working := (State.reevaluateFault_working _).mpr (.inr hold)
        rw [cell, eq]
        exact (State.raise_parks (s := v) ⟨enabled, by rw [entry]; exact park, works⟩).1

end Sys2Proof.Machine

/-! PROOFS. SET_LIMITS, and the target count (R27, R71, R79, R81, R112, R157). -/

namespace Sys2Proof.Machine

open Sys2Proof

/-! ### What a raise and a retarget leave of the spindle loop's rpm -/

/-- Whether it parks or not, a raise leaves the recipe rpm and the override (R81). -/
theorem State.raise_rpm (s : State) (k : FaultKind) :
    (s.raise k).spindle.recipeRpm = s.spindle.recipeRpm ∧ (s.raise k).spindle.override = s.spindle.override := by
  by_cases parks : s.RaiseParks k
  · obtain ⟨_, _, _, stopped, _⟩ := State.raise_parks parks
    rw [SpindleStopped] at stopped
    rw [stopped]
    split <;> exact ⟨rfl, rfl⟩
  · rw [(State.raise_stays parks).2.1]
    exact ⟨rfl, rfl⟩

theorem State.retarget_rpm (s : State) (recipeRpm override : Nat) :
    (s.retarget recipeRpm override).spindle.recipeRpm = recipeRpm
      ∧ (s.retarget recipeRpm override).spindle.override = override := by
  unfold State.retarget
  dsimp only
  split
  · exact ⟨rfl, rfl⟩
  · split <;> exact ⟨rfl, rfl⟩

/-! ### The bin capacity (R110, R112) -/

theorem State.setCapacity_magazine (s : State) (n : Nat) :
    (s.setCapacity n).magazine = { s.magazine with binCapacity := n } := by
  unfold State.setCapacity
  dsimp only
  split
  · split <;> simp
  · split <;> simp

theorem State.setCapacity_rpm (s : State) (n : Nat) :
    (s.setCapacity n).spindle.recipeRpm = s.spindle.recipeRpm
      ∧ (s.setCapacity n).spindle.override = s.spindle.override := by
  unfold State.setCapacity
  dsimp only
  split
  · split
    · exact ⟨rfl, rfl⟩
    · exact State.raise_rpm _ _
  · split <;> simp

/-- A capacity above the count ends REJECT_FULL (log entry 17). -/
theorem State.setCapacity_ends {s : State} {n : Nat} (room : n ≠ s.magazine.binCount) :
    ((s.setCapacity n).fault .rejectFull).active = false := by
  simp only [State.setCapacity, if_neg room]
  split
  · rw [State.fault_endCondition_same]
  next quiet => exact Bool.eq_false_iff.mpr quiet

/-- A capacity that comes to equal the count raises REJECT_FULL (R112; log entry 17). -/
theorem State.setCapacity_fills {s : State} {n : Nat} (full : n = s.magazine.binCount)
    (changed : s.magazine.binCapacity ≠ s.magazine.binCount) :
    ((s.setCapacity n).fault .rejectFull).active = true := by
  simp only [State.setCapacity, if_pos full, if_neg changed]
  exact State.raise_active _ rfl

/-! ### SET_LIMITS -/

/-- The queue of hanging boards is not touched by the end of a change. -/
theorem commit_queue (before after : State) : (commit before after).gripper.queue = after.gripper.queue := by
  have wait : (before.refreshWait (before.refreshFull after)).gripper.queue = after.gripper.queue := by
    unfold State.refreshWait
    split <;> simp
  simpa [commit] using wait

/-- The blocks that the four limits stand in, after they are put in force (R157). -/
theorem State.putLimits_limits (s : State) (hang speed feed bin : Nat) :
    (s.putLimits hang speed feed bin).scheduler.hangLimit = hang
      ∧ (s.putLimits hang speed feed bin).spindle.override = speed
      ∧ (s.putLimits hang speed feed bin).bit = { s.bit with feedOverride := feed }
      ∧ (s.putLimits hang speed feed bin).magazine = { s.magazine with binCapacity := bin } := by
  unfold State.putLimits
  dsimp only
  refine ⟨by simp, ?_, by simp, by rw [State.setCapacity_magazine]; simp⟩
  rw [(State.setCapacity_rpm _ _).2, (State.retarget_rpm _ _ _).2]

/-- The table's entry of REJECT_FULL after the limits are put in force. -/
theorem State.putLimits_rejectFull (s : State) (hang speed feed bin : Nat) :
    (bin ≠ s.magazine.binCount → ((s.putLimits hang speed feed bin).fault .rejectFull).active = false)
      ∧ (bin = s.magazine.binCount → s.magazine.binCapacity ≠ s.magazine.binCount →
          ((s.putLimits hang speed feed bin).fault .rejectFull).active = true) :=
  ⟨fun room => State.setCapacity_ends (by simpa using room),
    fun full changed => State.setCapacity_fills (by simpa using full) (by simpa using changed)⟩

/-- Settles O21, by the checks in their order and by where each limit stands. -/
theorem setLimitsPutsAllFourInForce : Obligations.SetLimitsPutsAllFourInForce := by
  intro s p hang speed feed bin reaches i limit
  refine ⟨fun zero => refuses_of_handler reaches rfl (if_pos zero),
    fun some_ below => refuses_of_handler reaches rfl ((if_neg some_).trans (if_pos below)),
    fun some_ within none_ => refuses_of_handler reaches rfl
      ((if_neg some_).trans ((if_neg (Nat.not_lt.mpr within)).trans (if_pos none_))),
    fun some_ within bins below => refuses_of_handler reaches rfl
      ((if_neg some_).trans ((if_neg (Nat.not_lt.mpr within)).trans ((if_neg bins).trans (if_pos below)))),
    fun some_ within bins room => ?accepted⟩
  have speedClamp : clamp 50 120 speed.toNat = min 120 (max 50 speed.toNat) := by
    rw [clamp_eq_max_min (by omega)]; omega
  have feedClamp : clamp 25 150 feed.toNat = min 150 (max 25 feed.toNat) := by
    rw [clamp_eq_max_min (by omega)]; omega
  let u := s.putLimits limit (clamp 50 120 speed.toNat) (clamp 25 150 feed.toNat) bin.toNat
  have limits : u.scheduler.hangLimit = limit ∧ u.spindle.override = min 120 (max 50 speed.toNat)
      ∧ u.bit = { s.bit with feedOverride := min 150 (max 25 feed.toNat) }
      ∧ u.magazine = { s.magazine with binCapacity := bin.toNat } := by
    rw [← speedClamp, ← feedClamp]
    exact s.putLimits_limits _ _ _ _
  obtain ⟨hangLimit, override, bit, magazine⟩ := limits
  have same := (commit_magazine (before := s) (after := u) (by rw [magazine])).trans magazine
  have spindle := (congrArg (·.override) (commit_spindle s u (by simp [u]))).trans override
  have hangs : (commit s u).scheduler.hangLimit = limit := by simpa only [commit_frame] using hangLimit
  have bit' : (commit s u).bit = { s.bit with feedOverride := min 150 (max 25 feed.toNat) } :=
    by simpa only [commit_frame] using bit
  have table : (commit s u).cell.faults = u.cell.faults := by simp
  obtain ⟨ends, fills⟩ := s.putLimits_rejectFull limit (clamp 50 120 speed.toNat) (clamp 25 150 feed.toNat) bin.toNat
  refine ⟨commit s u, ?answer, hangs, spindle, bit', by rw [same], by rw [same], fun other => ?_, fun full changed => ?_,
    by simp [u], by rw [same], by simp [u], ?queue⟩
  case answer =>
    refine answers_of_handler reaches rfl ((if_neg some_).trans ((if_neg (Nat.not_lt.mpr within)).trans
      ((if_neg bins).trans ((if_neg (Nat.not_lt.mpr room)).trans ?_))))
    have body : (commit s u).limitsBody = [BitVec.ofNat 8 limit, BitVec.ofNat 8 (min 120 (max 50 speed.toNat)),
        BitVec.ofNat 8 (min 150 (max 25 feed.toNat)), bin] := by
      simp only [State.limitsBody, n8]
      rw [hangs, spindle, bit', same]
      simp
    exact Prod.ext rfl (congrArg (Reply.mk _) body)
  case queue => rw [commit_queue]; simp [u]
  · rw [State.fault_of_faults table]; exact ends other
  · rw [State.fault_of_faults table]; exact fills full changed

/-! ### The target count (R79, R80) -/

/-- Settles O41: the target count and the window are quotients, and the range follows from the speed range. -/
theorem targetCountAndWindow : Obligations.TargetCountAndWindow := by
  intro sr r band low high
  have positive : 0 < 2 * r := by omega
  refine ⟨Nat.mul_div_le _ _, Nat.lt_mul_div_succ _ positive,
    ⟨Nat.mul_div_le _ _, Nat.lt_mul_div_succ _ (by decide)⟩, fun allowed => ⟨?_, ?_⟩⟩
  · refine (Nat.le_div_iff_mul_le positive).mpr ?_
    rcases allowed with rfl | rfl | rfl <;> omega
  · refine Nat.le_of_lt_succ ((Nat.div_lt_iff_lt_mul positive).mpr ?_)
    rcases allowed with rfl | rfl | rfl <;> omega

end Sys2Proof.Machine

/-! PROOFS. The spindle loop: the entry to FAULTED, the completed measurement, the tach line, the control period, the
timers and SPINDLE_RESET (R77, R78, R82 to R92). -/

namespace Sys2Proof.Machine

open Sys2Proof

/-! ### Entry to FAULTED -/

/-- The loop's block as FAULTED leaves it (R92). -/
def Spindle.faulted (sp : Spindle) (cause : SpindleCause) : Spindle :=
  { sp with state := .faulted, duty := 0, measurement := none, kickTimer := none, settleTimer := none,
            cause := some cause }

/-- The state in which the entry to FAULTED raises its kind: the loop faulted and the window revoked. -/
def State.faulting (s : State) (cause : SpindleCause) : State :=
  { s with spindle := s.spindle.faulted cause }.revokeAll

theorem State.enterFaulted_eq (s : State) (cause : SpindleCause) :
    s.enterFaulted cause = (s.faulting cause).raise .spindleFault := rfl

theorem State.faulting_scheduler (s : State) (cause : SpindleCause) :
    (s.faulting cause).scheduler
      = { s.scheduler with window := s.scheduler.window.map fun g => { g with live := false } } :=
  State.revokeAll_scheduler _

theorem State.faulting_cell (s : State) (cause : SpindleCause) : (s.faulting cause).cell = s.cell := by
  simp [State.faulting]

theorem State.faulting_fault (s : State) (cause : SpindleCause) (k : FaultKind) :
    (s.faulting cause).fault k = s.fault k :=
  State.fault_of_faults (by rw [s.faulting_cell]) k

theorem State.faulting_spindle (s : State) (cause : SpindleCause) :
    (s.faulting cause).spindle = s.spindle.faulted cause := by
  simp [State.faulting]

/-- The raise of SPINDLE_FAULT, which may park, finds the spindle at rest and the window revoked. -/
theorem State.enterFaulted_blocks (s : State) (cause : SpindleCause) :
    (s.enterFaulted cause).spindle = s.spindle.faulted cause
      ∧ (s.enterFaulted cause).scheduler
          = { s.scheduler with window := s.scheduler.window.map fun g => { g with live := false } } := by
  rw [s.enterFaulted_eq]
  by_cases parks : (s.faulting cause).RaiseParks .spindleFault
  · obtain ⟨_, _, _, stopped, window, _⟩ := State.raise_parks parks
    rw [SpindleStopped, s.faulting_spindle] at stopped
    refine ⟨stopped.trans (if_neg (by simp [Spindle.faulted, SpindleState.turning])), ?_⟩
    rw [window, s.faulting_scheduler]
    simp [List.map_map, Function.comp_def]
  · obtain ⟨_, spindle, scheduler⟩ := State.raise_stays parks
    rw [spindle, scheduler]
    exact ⟨s.faulting_spindle cause, s.faulting_scheduler cause⟩

theorem State.enterFaulted_faults (s : State) (cause : SpindleCause) :
    SpindleFaults s (s.enterFaulted cause) cause := by
  obtain ⟨spindle, scheduler⟩ := s.enterFaulted_blocks cause
  refine ⟨by rw [spindle]; rfl, by rw [spindle]; rfl, by rw [spindle]; rfl, by rw [spindle]; rfl, by rw [spindle]; rfl,
    by rw [spindle]; rfl, by rw [spindle]; rfl, by rw [spindle]; rfl, by rw [spindle]; rfl, scheduler,
    fun live => ?told, State.raise_active _ rfl, fun on => ?counted, by simp⟩
  case told =>
    refine State.raise_keepsPending (s.faulting cause) .spindleFault _ _ ?_
    exact State.revokeAll_posts (s := { s with spindle := s.spindle.faulted cause }) live
  case counted =>
    have on' : ((s.faulting cause).fault .spindleFault).enabled = true := by rw [s.faulting_fault]; exact on
    rw [s.enterFaulted_eq]
    refine ⟨?_, State.raise_posts _ on', fun park working => ?_⟩
    · rw [((s.faulting cause).raise_enabled on').1, s.faulting_fault]
      rfl
    · have parks : (s.faulting cause).RaiseParks .spindleFault := by
        refine ⟨on', ?_, ?_⟩
        · rw [s.faulting_fault]; exact park
        · simpa [State.working, s.faulting_cell] using working
      exact (State.raise_parks parks).1

/-- The fault of the loop speaks of the state before through the reference and the rpm alone. -/
theorem SpindleFaults.of_spindle {s t : State} {sp : Spindle} {cause : SpindleCause}
    (faults : SpindleFaults { s with spindle := sp } t cause) (reference : sp.reference = s.spindle.reference)
    (recipeRpm : sp.recipeRpm = s.spindle.recipeRpm) (override : sp.override = s.spindle.override) :
    SpindleFaults s t cause := by
  obtain ⟨state, duty, measurement, kick, settle, why, ref, rpm, ovr, scheduler, told, active, counted, frame⟩ := faults
  exact ⟨state, duty, measurement, kick, settle, why, ref.trans reference, rpm.trans recipeRpm, ovr.trans override,
    scheduler, told, active, counted, congrArg (fun t : State => { t with spindle := s.spindle }) frame⟩

/-- What the end of a change adds to a fault of the loop is postings and a write. -/
theorem SpindleFaults.commit {s u : State} {cause : SpindleCause} (faults : SpindleFaults s u cause) :
    SpindleFaults s (commit s u) cause := by
  obtain ⟨state, duty, measurement, kick, settle, why, ref, rpm, ovr, scheduler, told, active, counted, frame⟩ := faults
  obtain ⟨magazine, gripper, spindle⟩ := commit_quiet s u (congrArg (·.panels) frame) (congrArg (·.gripper.claim) frame)
    (congrArg (·.magazine) frame)
  have keeps := commit_keepsPending s u
  have table : (Machine.commit s u).cell.faults = u.cell.faults := by simp
  refine ⟨by rw [spindle]; exact state, by rw [spindle]; exact duty, by rw [spindle]; exact measurement,
    by rw [spindle]; exact kick, by rw [spindle]; exact settle, by rw [spindle]; exact why, by rw [spindle]; exact ref,
    by rw [spindle]; exact rpm, by rw [spindle]; exact ovr, by simpa using scheduler,
    fun live => keeps _ _ (told live), by rw [State.fault_of_faults table]; exact active, fun on => ?_,
    Eq.trans ?_ frame⟩
  · obtain ⟨count, raised, parks⟩ := counted on
    rw [State.fault_of_faults table]
    exact ⟨count, keeps _ _ raised, by simpa using parks⟩
  · simp [magazine, gripper]

/-! ### A completed measurement -/

/-- The window of the error, as the loop writes it. -/
theorem natAbs_le_iff (e : Int) (w : Nat) : e.natAbs ≤ w ↔ -(w : Int) ≤ e ∧ e ≤ w := by omega

/-- The loop step in the integers (R85). -/
theorem loopStep_eq (duty w coarse : Nat) (e : Int) :
    let step : Int := if -(w : Int) ≤ e ∧ e ≤ w then 1 else (coarse : Int)
    loopStep duty w coarse e = (if 0 < e then min 1023 ((duty : Int) + step)
      else if e < 0 then max 0 ((duty : Int) - step) else (duty : Int)).toNat := by
  intro step
  have same : ((if e.natAbs ≤ w then 1 else coarse : Nat) : Int) = step := by
    simp only [step, natAbs_le_iff]
    split <;> simp
  simp only [loopStep]
  generalize (if e.natAbs ≤ w then 1 else coarse : Nat) = d at same
  rw [← same]
  split
  · omega
  · split <;> omega

/-- Settles O42, by the state of the loop and the branch of R86 and R88 that the measurement takes. -/
theorem completedMeasurementStepsTheLoop : Obligations.CompletedMeasurementStepsTheLoop := by
  intro s count stall k e w t last step duty
  have stepped : loopStep s.spindle.duty s.window k.coarseStep e = duty.toNat := loopStep_eq _ _ _ _
  have within : e.natAbs ≤ s.window ↔ -w ≤ e ∧ e ≤ w := natAbs_le_iff _ _
  refine ⟨fun ramping => ?ramping, fun atSpeed => ?atSpeed⟩
  case ramping =>
    intro strain
    have equation : t = if k.stallDepth ≤ strain then
          { s with spindle := { s.spindle with last := some last, duty := duty.toNat, strain := strain } }.enterFaulted
            .strain
        else if s.spindle.reference = s.spindle.commanded ∧ e.natAbs ≤ s.window then
          { s with spindle := { s.spindle with last := some last, duty := duty.toNat, state := .atSpeed, strain := 0,
                                               miss := 0, settleTimer := none } }
        else { s with spindle := { s.spindle with last := some last, duty := duty.toNat, strain := strain } } := by
      rw [← stepped]
      simp only [t, State.completeMeasurement, ramping]
      rfl
    refine ⟨fun deep => ?_, fun shallow arrived low high => ?_, fun shallow away => ?_⟩
    · rw [equation, if_pos deep]
      refine ⟨SpindleFaults.of_spindle (State.enterFaulted_faults _ _) rfl rfl rfl, ?_⟩
      rw [(State.enterFaulted_blocks _ _).1]
      rfl
    · rw [equation, if_neg (Nat.not_le.mpr shallow), if_pos ⟨arrived, within.mpr ⟨low, high⟩⟩]
    · rw [equation, if_neg (Nat.not_le.mpr shallow), if_neg (by rwa [within])]
  case atSpeed =>
    intro miss
    have equation : t = if k.missDepth ≤ miss then
          { s with spindle := { s.spindle with last := some last, duty := duty.toNat, state := .ramping, strain := 0,
                                               miss := miss, settleTimer := s.loadSettle } }
        else { s with spindle := { s.spindle with last := some last, duty := duty.toNat, miss := miss } } := by
      have same : miss = if stall ∨ s.window < e.natAbs then s.spindle.miss + 1 else 0 := by
        simp only [miss, ← within, Nat.not_le]
      rw [← stepped, same]
      simp only [t, State.completeMeasurement, atSpeed]
      rfl
    refine ⟨fun deep => ?_, fun shallow => ?_⟩
    · rw [equation, if_pos deep]
      rfl
    · rw [equation, if_neg (Nat.not_le.mpr shallow)]

end Sys2Proof.Machine

/-! PROOFS. The tach line, the saturated measurement, the control period, the loop's timers and SPINDLE_RESET (R77, R78,
R82 to R92). -/

namespace Sys2Proof.Machine

open Sys2Proof

/-! ### Changes of the loop's block alone -/

/-- A change of the loop's block that leaves its state, and with it the cutting permission, has no more effect at its
end. -/
theorem commit_spindle_sameState (s : State) {sp : Spindle} (state : sp.state = s.spindle.state) :
    commit s { s with spindle := sp } = State.storeBegin { s with spindle := sp } := by
  refine commit_eq_storeBegin rfl rfl rfl rfl ?_ ?_
  · simp only [State.permitted, state]
  · exact congrArg (fun state => ({ s.grantView with spindle := state } : GrantView)) state

/-- A change of the loop's block outside AT_SPEED has no more effect at its end. -/
theorem commit_spindle_notAtSpeed (s : State) {sp : Spindle} (before : s.spindle.state ≠ .atSpeed)
    (after : sp.state ≠ .atSpeed) :
    commit s { s with spindle := sp } = State.storeBegin { s with spindle := sp } :=
  commit_eq_storeBegin_unpermitted rfl rfl rfl rfl (by simp [State.permitted, before]) (by simp [State.permitted, after])

/-! ### The measurement -/

theorem State.enterFaulted_spindle (s : State) (cause : SpindleCause) :
    (s.enterFaulted cause).spindle = s.spindle.faulted cause := (s.enterFaulted_blocks cause).1

/-- The result of a completed measurement is kept as the last one, and the next measurement runs on unless the loop
faulted (R78, R94). -/
theorem State.completeMeasurement_last {s : State} (runs : s.spindle.state = .ramping ∨ s.spindle.state = .atSpeed)
    (count : Nat) (stall : Bool) :
    let t := s.completeMeasurement count stall
    t.spindle.last = some { count := count, stall := stall }
      ∧ (t.spindle.state = .faulted ∧ t.spindle.measurement = none
        ∨ t.spindle.measurement = s.spindle.measurement) := by
  intro t
  rcases runs with ramping | atSpeed
  · simp only [t, State.completeMeasurement, ramping]
    split_ifs <;> simp [State.enterFaulted_spindle, Spindle.faulted]
  · simp only [t, State.completeMeasurement, atSpeed]
    split_ifs <;> simp

/-- An edge that finds no measurement has no effect. -/
theorem State.edgeInMeasurement_none {s : State} (none_ : s.spindle.measurement = none) : s.edgeInMeasurement = s := by
  simp [State.edgeInMeasurement, none_]

/-- An edge synchronises a measurement that is not (R77). -/
theorem State.edgeInMeasurement_synchronises {s : State} {m : Measurement} (runs : s.spindle.measurement = some m)
    (waiting : m.synchronised = false) :
    s.edgeInMeasurement = { s with spindle := { s.spindle with measurement := some (Measurement.new true) } } := by
  simp [State.edgeInMeasurement, runs, waiting]

/-- The edge after a stall measurement: the result stays, and the measurement begun is synchronised by it (log entry
4). -/
theorem State.edge_after_stall {s : State} (runs : s.spindle.state = .ramping ∨ s.spindle.state = .atSpeed)
    (counted : Nat) :
    let t := (s.completeStall counted).edgeInMeasurement
    t.spindle.last = some { count := 65535, stall := true }
      ∧ (t.spindle.state ≠ .faulted → t.spindle.measurement = some (Measurement.new true)) := by
  intro t
  obtain ⟨last, next⟩ := State.completeMeasurement_last (s := { s with spindle := { s.spindle with
    measurement := some { Measurement.new false with count := counted } } }) runs 65535 true
  rcases next with ⟨faulted, none_⟩ | runsOn
  · have same : t = s.completeStall counted := State.edgeInMeasurement_none none_
    rw [same]
    exact ⟨last, fun running => absurd faulted running⟩
  · have fresh := State.edgeInMeasurement_synchronises (s := s.completeStall counted) runsOn rfl
    simp only [t, fresh]
    exact ⟨last, fun _ => trivial⟩

/-- The cycles before an edge that does not saturate the measurement are counted in it (R77). -/
theorem State.advanceMeasurement_below {s : State} {m : Measurement} (runs : s.spindle.measurement = some m)
    {cycles : Nat} (below : m.count + cycles < 65535) :
    s.advanceMeasurement cycles
      = { s with spindle := { s.spindle with measurement := some { m with count := m.count + cycles } } } := by
  simp [State.advanceMeasurement, runs, below]

theorem State.tachEdge_running {s : State} (runs : s.spindle.state = .ramping ∨ s.spindle.state = .atSpeed)
    (cycles : Nat) : s.tachEdge cycles = (s.advanceMeasurement cycles).edgeInMeasurement := by
  rcases runs with state | state <;> simp [State.tachEdge, state]

/-- A change of the loop that touches neither boards nor magazine keeps its block to the end. -/
theorem commit_loop (s u : State) (panels : u.panels = s.panels) (gripper : u.gripper = s.gripper)
    (magazine : u.magazine = s.magazine) : (commit s u).spindle = u.spindle :=
  (commit_quiet s u panels (by rw [gripper]) magazine).2.2

theorem tachEdgesDriveTheMeasurement : Says.TachEdgesDriveTheMeasurement := by
  intro s cycles up
  have taken : exec (.tachEdge cycles) s = .next (commit s (s.tachEdge cycles.toNat)) :=
    congrArg Host.Outcome.next (s.event_up _ up)
  rw [taken]
  refine ⟨fun rests => ?rests, fun kick first => ?first, fun kick second => ?second, fun runs m measures => ?runs⟩
  case rests =>
    have still : s.tachEdge cycles.toNat = s := by rcases rests with state | state <;> simp [State.tachEdge, state]
    rw [still, commit_self]
  case first =>
    have counted : s.tachEdge cycles.toNat = { s with spindle := { s.spindle with kickEdges := 1 } } := by
      simp [State.tachEdge, kick, State.kickEdge, first]
    rw [counted]
    exact congrArg _ (commit_spindle_sameState s rfl)
  case second =>
    have ramps : s.tachEdge cycles.toNat
        = State.enterRamping { s with spindle := { s.spindle with kickEdges := s.spindle.kickEdges + 1 } } := by
      simp only [State.tachEdge, kick, State.kickEdge]
      exact if_pos (by omega)
    rw [ramps]
    refine congrArg Host.Outcome.next ((commit_spindle_notAtSpeed s (by simp [kick]) ?_).trans ?_)
    · simp
    · simp only [State.settleFor, eq_comm (a := 6000)]
      rfl
  case runs =>
    rw [State.tachEdge_running runs]
    intro synchronised reached
    refine ⟨fun below waiting => ?_, fun below counts more => ?_, fun below counts last => ?_, fun saturates => ?_⟩
    · rw [State.advanceMeasurement_below measures below, State.edgeInMeasurement_synchronises
        (m := { m with count := m.count + cycles.toNat }) rfl waiting]
      exact congrArg _ (commit_spindle_sameState s rfl)
    · have counted : (s.advanceMeasurement cycles.toNat).edgeInMeasurement = { s with spindle := { s.spindle with
          measurement := some { count := reached, edges := m.edges + 1, synchronised := true } } } := by
        rw [State.advanceMeasurement_below measures below]
        simp [State.edgeInMeasurement, counts, Nat.not_le.mpr more, reached]
      rw [counted]
      exact congrArg _ (commit_spindle_sameState s rfl)
    · have completes : (s.advanceMeasurement cycles.toNat).edgeInMeasurement
          = (synchronised s).completeMeasurement reached false := by
        rw [State.advanceMeasurement_below measures below]
        simp [State.edgeInMeasurement, counts, last, reached, synchronised, Measurement.new]
      rw [completes]
      refine ⟨_, rfl, commit_loop s _ ?_ ?_ ?_, ?_, ?_, ?_⟩ <;> simp [synchronised]
    · have stalls : s.advanceMeasurement cycles.toNat = s.completeStall (reached - 65535) := by
        simp [State.advanceMeasurement, measures, Nat.not_lt.mpr saturates, reached]
      rw [stalls]
      obtain ⟨last, fresh⟩ := State.edge_after_stall runs (reached - 65535)
      refine ⟨_, rfl, ?_⟩
      rw [commit_loop s _ (by simp [State.completeStall]) (by simp [State.completeStall]) (by simp [State.completeStall])]
      exact ⟨last, fresh⟩

theorem stallMeasurementCompletes : Says.StallMeasurementCompletes := by
  intro s up
  refine ⟨fun none_ => ?_, fun m runs => ⟨commit s (s.completeStall 0), ?_, ?_⟩⟩
  · simp [exec, execStallMeasurement, State.event_up _ _ up, none_, commit_self]
  · simp [exec, execStallMeasurement, State.event_up _ _ up, runs]
  · refine ⟨commit_loop s _ ?_ ?_ ?_, ?_, ?_, ?_⟩ <;> simp [State.completeStall]

/-- The step of the reference: toward the commanded rpm by at most the rate, and none at it (R82). -/
theorem rampStep_eq (reference commanded rate : Nat) :
    rampStep reference commanded rate = if reference < commanded then min commanded (reference + rate)
      else if commanded < reference then max commanded (reference - rate) else reference := by
  unfold rampStep
  split
  · rfl
  · split <;> omega

theorem controlPeriodStepsTheReference : Says.ControlPeriodStepsTheReference := by
  intro s up r c rate next
  have taken : exec .controlPeriod s = .next (commit s s.controlPeriod) := congrArg Host.Outcome.next (s.event_up _ up)
  rw [taken]
  refine ⟨fun ramping => ?_, fun other => ?_⟩
  · have stepped : s.controlPeriod = { s with spindle := { s.spindle with
        reference := next, controlPhase := 0,
        settleTimer := if r ≠ c ∧ next = c then some { ms := s.constants.spindle.settleLimit * 1000, us := 0 }
                       else s.spindle.settleTimer } } := by
      simp only [State.controlPeriod, ramping, rampStep_eq]
      rfl
    rw [stepped]
    exact congrArg _ (commit_spindle_sameState s rfl)
  · have stays : s.controlPeriod = { s with spindle := { s.spindle with controlPhase := 0 } } := by
      simp only [State.controlPeriod]
      split
      next ramping => exact absurd ramping other
      all_goals rfl
    rw [stays]
    exact congrArg _ (commit_spindle_sameState s rfl)

/-- Settles O43, by the tach edge, the saturated measurement and the control period. -/
theorem tachAndControlPeriodDriveTheLoop : Obligations.TachAndControlPeriodDriveTheLoop :=
  ⟨tachEdgesDriveTheMeasurement, stallMeasurementCompletes, controlPeriodStepsTheReference⟩

/-! ### The timers and SPINDLE_RESET -/

theorem spindleTimersFaultTheLoop : Says.SpindleTimersFaultTheLoop := by
  intro s up
  refine ⟨fun none_ => ?_, fun none_ => ?_, fun x runs => ⟨_, ?_, (s.enterFaulted_faults .kickTimeout).commit⟩,
    fun x runs => ⟨_, ?_, (s.enterFaulted_faults .settle).commit⟩⟩
  · simp [exec, execKickTimeout, State.event_up _ _ up, none_, commit_self]
  · simp [exec, execSettle, State.event_up _ _ up, none_, commit_self]
  · simp [exec, execKickTimeout, State.event_up _ _ up, runs]
  · simp [exec, execSettle, State.event_up _ _ up, runs]

/-- The end of a condition only ever takes FAULT out of the hold set (R145, R153). -/
theorem State.endCondition_fewer {s : State} (k : FaultKind) (holds : (s.endCondition k).faultHolds = true) :
    s.faultHolds = true := by
  refine State.faultHolds_mono (fun j held => ?_) holds
  by_cases same : j = k
  · subst same
    rw [State.fault_endCondition_same] at held
    simp only [FaultEntry.holds, Bool.and_eq_true, Bool.or_eq_true] at held ⊢
    exact ⟨held.1, .inr (held.2.resolve_left (by decide))⟩
  · rwa [State.fault_endCondition_ne s same] at held

theorem State.endCondition_holds (s : State) (k : FaultKind) :
    (s.endCondition k).cell.holds = { s.cell.holds with fault := (s.endCondition k).faultHolds } :=
  State.reevaluateFault_holds (s.modifyFault k fun e => { e with active := false })

/-- The end of a condition can end HOLD, and nothing else of the cell state (R146). -/
theorem State.endCondition_state {s : State} (safe : HoldsSafe s) (k : FaultKind) :
    (s.endCondition k).cell.state
      = if s.cell.state = .hold ∧ (s.endCondition k).cell.holds.isEmpty = true then .run else s.cell.state := by
  obtain ⟨emptyInRun, filledInHold, fault⟩ := safe
  have table : (s.endCondition k).faultHolds = (s.modifyFault k fun e => { e with active := false }).faultHolds :=
    State.faultHolds_reevaluateFault _
  have holds := s.endCondition_holds k
  rw [holds, table]
  refine State.setHolds_state (s := s.modifyFault k fun e => { e with active := false }) (fun run => ?_) filledInHold
  have empty := emptyInRun run
  have none_ : (s.endCondition k).faultHolds = false := by
    refine Bool.eq_false_iff.mpr fun holds => ?_
    rw [HoldSet.isEmpty_false_of_fault (fault.trans (State.endCondition_fewer k holds))] at empty
    exact absurd empty (by decide)
  rw [← table, none_]
  exact HoldSet.isEmpty_of_fault_false empty

/-- What the reset of the loop leaves in each block (R90). -/
theorem State.resetSpindle_blocks (s : State) :
    let t := State.endCondition { s with spindle := { s.spindle with state := .stopped } } .spindleFault
    s.resetSpindle.cell = t.cell
      ∧ s.resetSpindle.spindle = (if s.cell.state = .run ∨ s.cell.state = .hold then
          { s.spindle with state := .kick, duty := s.constants.spindle.kickDuty, kickEdges := 0,
                           kickTimer := some { ms := s.constants.spindle.kickTimeout, us := 0 } }
          else { s.spindle with state := .stopped }) := by
  intro t
  have stopped : t.spindle = { s.spindle with state := .stopped } := by simp [t]
  have constants : t.constants = s.constants := by simp [t]
  have started : t.start.spindle = { s.spindle with
      state := .kick, duty := s.constants.spindle.kickDuty, kickEdges := 0,
      kickTimer := some { ms := s.constants.spindle.kickTimeout, us := 0 } } := by
    simp only [State.start, stopped, constants, if_true]
    rfl
  cases state : s.cell.state <;> simp only [State.resetSpindle, state]
  case run => exact ⟨by simp [t], started.trans (by simp)⟩
  case hold => exact ⟨by simp [t], started.trans (by simp)⟩
  all_goals exact ⟨rfl, stopped.trans (by simp)⟩

theorem spindleResetLeavesFaulted : Says.SpindleResetLeavesFaulted := by
  intro s p reaches safe
  refine ⟨fun other => refuses_of_handler reaches rfl (if_neg other), fun faulted => ?_⟩
  let v : State := { s with spindle := { s.spindle with state := .stopped } }
  obtain ⟨cell, spindle⟩ := s.resetSpindle_blocks
  have same : (commit s s.resetSpindle).cell = (v.endCondition .spindleFault).cell := by simpa using cell
  have loop := (commit_loop s s.resetSpindle (by simp) (by simp) (by simp)).trans spindle
  have table := congrArg (·.faults) same
  obtain ⟨magazine, gripper, _⟩ := commit_quiet s s.resetSpindle (by simp) (by simp) (by simp)
  have safe' : HoldsSafe v := safe
  refine ⟨commit s s.resetSpindle, ?answer, loop, ?ended, fun k other => ?others, ?holds, ?state, ?frame⟩
  case answer =>
    refine answers_of_handler reaches rfl ((if_pos faulted).trans ?_)
    have body : n8 (commit s s.resetSpindle).spindle.state.code
        = [if s.cell.state = .run ∨ s.cell.state = .hold then 1 else 0] := by
      rw [loop]
      split <;> rfl
    exact Prod.ext rfl (congrArg (Reply.mk _) body)
  case ended => rw [State.fault_of_faults table]; exact v.fault_endCondition_same _
  case others => rw [State.fault_of_faults table]; exact v.fault_endCondition_ne other
  case holds =>
    rw [State.faultHolds_of_faults table, same]
    exact v.endCondition_holds _
  case state =>
    rw [same]
    exact v.endCondition_state safe' _
  case frame => simp [magazine, gripper]

/-- Settles O44, by the two timers and SPINDLE_RESET. -/
theorem spindleFaultsAndItsReset : Obligations.SpindleFaultsAndItsReset :=
  ⟨spindleTimersFaultTheLoop, spindleResetLeavesFaulted⟩

end Sys2Proof.Machine

/-! PROOFS. Slot positions and the nearest slot, and RECIPE_CLOSE (R6, R123 to R125). -/

namespace Sys2Proof.Machine

open Sys2Proof

/-! ### Positions -/

/-- A distance is in the signed range and congruent to the difference of the counts (R124). -/
theorem countDiff_reduced (a b : Word24) :
    -8388608 ≤ countDiff a b ∧ countDiff a b ≤ 8388607 ∧ (a.toInt - b.toInt - countDiff a b) % 16777216 = 0 := by
  have low := BitVec.le_toInt (a - b)
  have high := BitVec.toInt_lt (x := a - b)
  have congruent : countDiff a b = (a.toInt - b.toInt).bmod (2 ^ 24) := BitVec.toInt_sub
  refine ⟨by simpa [countDiff] using low, Int.le_of_lt_add_one (by simpa [countDiff] using high), ?_⟩
  rw [congruent]
  exact Int.emod_eq_emod_iff_emod_sub_eq_zero.mp Int.bmod_emod.symm

theorem MagType.near_iff (t : MagType) (c : Word24) (k : Nat) :
    t.near c k = true ↔ -(t.tolerance : Int) ≤ countDiff c (t.pos k) ∧ countDiff c (t.pos k) ≤ t.tolerance := by
  simp only [MagType.near, decide_eq_true_eq]
  exact natAbs_le_iff _ _

/-- The quotient that the nearest slot is taken from names slot k exactly within half a pitch of it (R125). -/
theorem one_add_ediv_eq_iff {x p : Int} (positive : 0 < p) (k : Int) :
    1 + x / p = k ↔ (k - 1) * p ≤ x ∧ x < k * p := by
  rw [← Int.le_ediv_iff_mul_le positive, ← Int.ediv_lt_iff_lt_mul positive]
  omega

theorem MagType.nearest_eq_slot (t : MagType) (c : Word24) {k : Nat} (first : 1 ≤ k) :
    t.nearest c = .slot k
      ↔ 1 + (countDiff c t.base * 16 + ((t.pitch16 / 2 : Nat) : Int)) / (t.pitch16 : Int) = (k : Int)
        ∧ k ≤ t.slotCount ∧ t.near c k = true := by
  unfold MagType.nearest
  generalize 1 + (countDiff c t.base * 16 + ((t.pitch16 / 2 : Nat) : Int)) / (t.pitch16 : Int) = j
  constructor
  · intro named
    dsimp only at named
    split at named
    next found =>
      obtain ⟨low, high, near⟩ := found
      obtain rfl : j.toNat = k := by simpa using named
      exact ⟨by omega, by omega, near⟩
    next => cases named
  · rintro ⟨rfl, high, near⟩
    exact (if_pos ⟨by omega, by omega, near⟩).trans (by simp)

/-- Settles O49, by the arithmetic of the positions and of the quotient. -/
theorem slotPositionsAndNearestSlot : Obligations.SlotPositionsAndNearestSlot := by
  intro t c k pitch
  refine ⟨?position, countDiff_reduced, t.near_iff c k, fun first => ?nearest, ?some_⟩
  case position =>
    have quotient : ((((k - 1) * t.pitch16 + 8) / 16 : Nat) : Int) = (((k - 1 : Nat) : Int) * t.pitch16 + 8) / 16 := by
      push_cast
      rfl
    rw [BitVec.ofInt_add, BitVec.ofInt_toInt, ← quotient, BitVec.ofInt_natCast]
    rfl
  case nearest =>
    rw [t.nearest_eq_slot c first, one_add_ediv_eq_iff (by omega)]
    exact ⟨fun ⟨range, high, near⟩ => ⟨high, near, range⟩, fun ⟨high, near, range⟩ => ⟨range, high, near⟩⟩
  case some_ =>
    unfold MagType.nearest
    dsimp only
    split <;> simp

/-! ### RECIPE_CLOSE -/

/-- The checks 2a to 2e of R6 that a board item passes. -/
def BoardItem.Sound (item : BoardItem) : Prop :=
  ∃ d, item.definition = some d ∧ (d.height = 1 ∨ d.height = 2) ∧ 1 ≤ d.tabCount ∧ d.tabCount ≤ 8
    ∧ (∀ t, 1 ≤ t → t ≤ d.tabCount → ∃ x, item.tab t = some x ∧ x.role ≤ 1 ∧ x.heading ≤ 359
        ∧ 5 ≤ x.cutLength ∧ x.cutLength ≤ 250)
    ∧ ∃ t x, 1 ≤ t ∧ t ≤ d.tabCount ∧ item.tab t = some x ∧ x.role = 1

theorem BoardItem.tabFailure_eq_none (item : BoardItem) (i t : Nat) :
    item.tabFailure i t = none
      ↔ ∃ x, item.tab t = some x ∧ x.role ≤ 1 ∧ x.heading ≤ 359 ∧ 5 ≤ x.cutLength ∧ x.cutLength ≤ 250 := by
  unfold BoardItem.tabFailure
  cases item.tab t with
  | none => simp
  | some x => simp [TabDef.inRange]

theorem mem_range'_one {n t : Nat} : t ∈ List.range' 1 n ↔ 1 ≤ t ∧ t ≤ n := by
  rw [List.mem_range'_1]
  omega

theorem BoardItem.failure_eq_none (item : BoardItem) (i : Nat) : item.failure i = none ↔ item.Sound := by
  unfold BoardItem.failure BoardItem.Sound
  cases item.definition with
  | none => simp
  | some d =>
      by_cases range : (d.height = 1 ∨ d.height = 2) ∧ 1 ≤ d.tabCount ∧ d.tabCount ≤ 8
      · have tabs : (List.range' 1 d.tabCount).findSome? (item.tabFailure i) = none ↔ ∀ t, 1 ≤ t → t ≤ d.tabCount →
            ∃ x, item.tab t = some x ∧ x.role ≤ 1 ∧ x.heading ≤ 359 ∧ 5 ≤ x.cutLength ∧ x.cutLength ≤ 250 := by
          simp only [List.findSome?_eq_none_iff, mem_range'_one, BoardItem.tabFailure_eq_none, and_imp]
        have holds : ((List.range' 1 d.tabCount).any fun t => (item.tab t).any (·.role == 1)) = true
            ↔ ∃ t x, 1 ≤ t ∧ t ≤ d.tabCount ∧ item.tab t = some x ∧ x.role = 1 := by
          simp only [List.any_eq_true, mem_range'_one, Option.any_eq_true, beq_iff_eq]
          exact ⟨fun ⟨t, ⟨low, high⟩, x, tab, role⟩ => ⟨t, x, low, high, tab, role⟩,
            fun ⟨t, x, low, high, tab, role⟩ => ⟨t, ⟨low, high⟩, x, tab, role⟩⟩
        obtain ⟨height, least, most⟩ := id range
        simp only [Option.some.injEq, exists_eq_left', height, least, most, true_and, ← tabs, ← holds]
        cases (List.range' 1 d.tabCount).findSome? (item.tabFailure i) with
        | some f => simp [range]
        | none =>
            simp only [range, true_and]
            cases (List.range' 1 d.tabCount).any fun t => (item.tab t).any (·.role == 1) <;> simp
      · have outside : ∀ P, ¬ ((d.height = 1 ∨ d.height = 2) ∧ 1 ≤ d.tabCount ∧ d.tabCount ≤ 8 ∧ P) :=
          fun P ⟨height, least, most, _⟩ => range ⟨height, least, most⟩
        simp only [Option.some.injEq, exists_eq_left', outside, iff_false]
        simp [range]

/-- No check of R6 fails exactly when the header is in range and every board item is sound. -/
theorem Recipe.failure_eq_none (r : Recipe) :
    r.failure = none ↔ (6000 ≤ r.header.rpm ∧ r.header.rpm ≤ 60000) ∧ (1 ≤ r.header.feed ∧ r.header.feed ≤ 1000)
      ∧ (100 ≤ r.header.cutLimit ∧ r.header.cutLimit ≤ 60000) ∧ ∀ item ∈ r.items, item.Sound := by
  have items : ((r.items.zipIdx 1).findSome? fun (item, i) => item.failure i) = none
      ↔ ∀ item ∈ r.items, item.Sound := by
    simp only [List.findSome?_eq_none_iff, BoardItem.failure_eq_none, List.forall_mem_zipIdx]
    exact List.forall_getElem
  have header : r.header.inRange = true ↔ (6000 ≤ r.header.rpm ∧ r.header.rpm ≤ 60000)
      ∧ (1 ≤ r.header.feed ∧ r.header.feed ≤ 1000) ∧ (100 ≤ r.header.cutLimit ∧ r.header.cutLimit ≤ 60000) := by
    simp [RecipeHeader.inRange]
  rw [← items]
  cases inRange : r.header.inRange with
  | true =>
      obtain ⟨rpm, feed, cutLimit⟩ := header.mp inRange
      simp [Recipe.failure, inRange, rpm, feed, cutLimit]
  | false =>
      have outside : ∀ P, ¬ ((6000 ≤ r.header.rpm ∧ r.header.rpm ≤ 60000) ∧ (1 ≤ r.header.feed ∧ r.header.feed ≤ 1000)
          ∧ (100 ≤ r.header.cutLimit ∧ r.header.cutLimit ≤ 60000) ∧ P) := fun P ⟨rpm, feed, cutLimit, _⟩ =>
        absurd (header.mpr ⟨rpm, feed, cutLimit⟩) (by simp [inRange])
      simp only [outside, iff_false]
      simp [Recipe.failure, inRange]

/-- The definitions above the tab count are gone, and the others stay (R6). -/
theorem BoardItem.tab_trim (item : BoardItem) (t : Nat) :
    item.trim.tab t = if (item.definition.any fun d => decide (t ≤ d.tabCount)) = true then item.tab t else none := by
  rcases t with _ | t
  · simp [BoardItem.tab, nth1]
  · unfold BoardItem.tab BoardItem.trim
    cases item.definition with
    | none => cases known : item.tabs[t]? <;> simp [nth1, known]
    | some d =>
        simp only [nth1, Option.any_some, decide_eq_true_eq]
        by_cases within : t + 1 ≤ d.tabCount
        · simp [within, Nat.lt_of_succ_le within]
        · have above : ¬ t < d.tabCount := within
          cases known : item.tabs[t]? <;> simp [within, above, known]

theorem Recipe.item_trim (r : Recipe) (b : Nat) :
    Recipe.item { r with items := r.items.map BoardItem.trim } b = (r.item b).map BoardItem.trim := by
  simp [Recipe.item, nth1]
  split <;> simp

/-- What a recipe that becomes VALID keeps of its definitions (R6). -/
theorem Recipe.tab_trim (r : Recipe) (b t : Nat) :
    Recipe.tab { r with items := r.items.map BoardItem.trim } b t
      = if ((r.board b).any fun d => decide (t ≤ d.tabCount)) = true then r.tab b t else none := by
  simp only [Recipe.tab, Recipe.board, Recipe.item_trim]
  rcases Option.eq_none_or_eq_some (r.item b) with none_ | ⟨item, found⟩
  · simp [none_]
  · simpa [found] using item.tab_trim t

/-- Settles O23, by the slot's number, its state and the first failing check. -/
theorem recipeCloseValidates : Obligations.RecipeCloseValidates := by
  intro s p slot reaches safe
  refine ⟨fun outside => refuses_of_handler reaches rfl (by simp [fin4_outside outside]), fun k number =>
    ⟨fun notOpened => refuses_of_handler reaches rfl ?notOpened, fun r opened =>
      ⟨fun b t kind fails => answers_of_handler reaches rfl ?fails, fun passes => ?passes, r.failure_eq_none⟩⟩⟩
  case notOpened =>
    simp only [fin4_of_eq_succ number]
    cases contents : s.recipes[k] with
    | opened r => exact absurd contents (notOpened r)
    | empty | valid _ => rfl
  case fails =>
    simp only [fin4_of_eq_succ number, opened, fails]
    rfl
  case passes =>
    refine ⟨{ r with items := r.items.map BoardItem.trim }, answers_of_handler reaches rfl ?_, rfl, by simp,
      fun b => ⟨?_, r.tab_trim b⟩⟩
    · simp only [fin4_of_eq_succ number, opened, passes]
      exact accept_setRecipe _ (State.slotUnused_of_opened safe opened)
    · simp only [Recipe.board, Recipe.item_trim]
      cases r.item b <;> rfl

end Sys2Proof.Machine

/-! PROOFS. Insertion control at a change of the counter, a move or a homing: the confirmation withdrawn and an insertion
disturbed, said once, with the encoder lines, the reference edge, HOME_BEGIN, MOVE_BEGIN and ARRIVED (R116, R119 to R122,
R134 to R138). -/

namespace Sys2Proof.Machine

open Sys2Proof

/-! ### Pending kinds -/

/-- No kind that was pending is lost by postings. -/
theorem State.Posts.keeps {s t : State} (posts : s.Posts t) {p : Port} {k : EventKind}
    (pending : s.isPending p k = true) : t.isPending p k = true := by
  obtain ⟨kinds, -, port⟩ := posts p
  rw [State.isPending_iff, BitVec.and_comm] at pending ⊢
  rw [port, BitVec.and_or_distrib_left]
  exact fun none_ => pending (BitVec.or_eq_zero_iff.mp none_).1

/-- A kind posted and then kept. -/
theorem State.Posts.posted {s t : State} {p : Port} {k : EventKind} (posts : (s.post p k).Posts t)
    (listed : kindBit p k ≠ 0) : t.isPending p k = true :=
  posts.keeps (s.isPending_post listed)

/-! ### The confirmation and the open insertion -/

theorem State.withdraw_insertion (s : State) :
    s.withdraw.insertion = { s.insertion with confirmation := none } := by
  unfold State.withdraw
  cases s.insertion.confirmation with
  | none => rfl
  | some k =>
      dsimp only
      split <;> simp

/-- A confirmation withdrawn for the slot of a BOUND board leaves the slot wanted (R132). -/
theorem State.withdraw_posts {s : State} {k : Nat} (bound : s.boundSlot = some k)
    (confirmed : s.insertion.confirmation = some k) : s.withdraw.isPending .magazine .positionWanted = true := by
  simp only [State.withdraw, confirmed, bound, if_true]
  exact State.isPending_post _ (by decide)

theorem State.disturb_insertion (s : State) :
    s.disturb.insertion
      = { s.insertion with insertion := s.insertion.insertion.map fun o => { o with disturbed := true } } := by
  unfold State.disturb
  cases opened : s.insertion.insertion with
  | none => exact congrArg (fun x => ({ s.insertion with insertion := x } : Insertion)) opened
  | some o =>
      dsimp only
      split
      next already =>
        have same : ({ o with disturbed := true } : OpenInsertion) = o := by rw [← already]
        rw [Option.map_some, same]
        exact congrArg (fun x => ({ s.insertion with insertion := x } : Insertion)) opened
      next => simp

/-- The first disturbance of an open insertion is told to both ports (R138). -/
theorem State.disturb_posts {s : State} {o : OpenInsertion} (opened : s.insertion.insertion = some o)
    (first : o.disturbed = false) :
    s.disturb.isPending .pick .insertDisturbed = true ∧ s.disturb.isPending .magazine .insertDisturbed = true := by
  simp only [State.disturb, opened, first, Bool.false_eq_true, if_false]
  exact ⟨State.post_keepsPending _ _ _ _ _ (State.isPending_post _ (by decide)), State.isPending_post _ (by decide)⟩

theorem State.counterMoved_none {s : State} (none_ : s.magazine.session = none) : s.counterMoved = s := by
  simp [State.counterMoved, none_]

/-- What insertion control makes of a counter value (R136, R138). -/
def Insertion.moved (i : Insertion) (near : Nat → Bool) : Insertion :=
  { i with confirmation := i.confirmation.filter near
           insertion := i.insertion.map fun o => { o with disturbed := o.disturbed || !near o.first } }

/-- The part of a change of the counter that concerns the confirmation. -/
def State.confirmationMoved (s : State) (m : Session) : State :=
  match s.insertion.confirmation with
  | some k => if m.type.near s.elevator.counter k then s else s.withdraw
  | none => s

theorem State.confirmationMoved_insertion (s : State) (m : Session) :
    (s.confirmationMoved m).insertion
      = { s.insertion with confirmation := s.insertion.confirmation.filter (m.type.near s.elevator.counter) } := by
  unfold State.confirmationMoved
  cases confirmed : s.insertion.confirmation with
  | none => exact congrArg (fun x => ({ s.insertion with confirmation := x } : Insertion)) confirmed
  | some k =>
      dsimp only
      split
      next near =>
        rw [Option.filter, if_pos near]
        exact congrArg (fun x => ({ s.insertion with confirmation := x } : Insertion)) confirmed
      next far => simp [Option.filter, far, State.withdraw_insertion]

theorem State.counterMoved_some {s : State} {m : Session} (loaded : s.magazine.session = some m) :
    s.counterMoved = match s.insertion.insertion with
      | some o => if m.type.near s.elevator.counter o.first then s.confirmationMoved m
                  else (s.confirmationMoved m).disturb
      | none => s.confirmationMoved m := by
  unfold State.counterMoved
  rw [loaded]
  rfl

theorem State.counterMoved_insertion {s : State} {m : Session} (loaded : s.magazine.session = some m) :
    s.counterMoved.insertion = s.insertion.moved (m.type.near s.elevator.counter) := by
  rw [State.counterMoved_some loaded]
  cases opened : s.insertion.insertion with
  | none => simp [State.confirmationMoved_insertion, Insertion.moved, opened]
  | some o =>
      dsimp only
      split
      next near => simp [State.confirmationMoved_insertion, Insertion.moved, opened, near]
      next far => simp [State.disturb_insertion, State.confirmationMoved_insertion, Insertion.moved, opened, far]

theorem State.counterMoved_posts {s : State} {m : Session} {o : OpenInsertion} (loaded : s.magazine.session = some m)
    (opened : s.insertion.insertion = some o) (first : o.disturbed = false)
    (far : m.type.near s.elevator.counter o.first = false) :
    s.counterMoved.isPending .pick .insertDisturbed = true
      ∧ s.counterMoved.isPending .magazine .insertDisturbed = true := by
  rw [State.counterMoved_some loaded, opened]
  simp only [far, Bool.false_eq_true, if_false]
  refine State.disturb_posts (o := o) ?_ first
  rw [State.confirmationMoved_insertion]
  exact opened

/-- A change of the counter leaves the permission and the settle wait. -/
theorem State.counterMoved_rest (s : State) :
    s.counterMoved.insertion.permission = s.insertion.permission ∧ s.counterMoved.insertion.wait = s.insertion.wait := by
  cases loaded : s.magazine.session with
  | none => rw [State.counterMoved_none loaded]; exact ⟨rfl, rfl⟩
  | some m => rw [State.counterMoved_insertion loaded]; exact ⟨rfl, rfl⟩

/-! ### The encoder lines -/

/-- The six transitions of the lines that count up, and the table of them read the other way (R116). -/
theorem legal_transition (oldA oldB a b : Bool) :
    let before := (oldA, oldB)
    let ups := [((false, false), (true, false)), ((true, false), (true, true)), ((true, true), (false, true)),
      ((false, true), (false, false))]
    ((before, (a, b)) ∈ ups ∨ ((a, b), before) ∈ ups) →
      ¬ (a = oldA ∧ b = oldB) ∧ ¬ (a ≠ oldA ∧ b ≠ oldB) ∧ (countsUp oldA oldB a b = true ↔ (before, (a, b)) ∈ ups) := by
  revert oldA oldB a b
  decide

/-- Settles O50, by whether the sample changes a line and by the table of the transitions. -/
theorem encoderTransitionsCount : Obligations.EncoderTransitionsCount := by
  intro s a b up before ups
  refine ⟨fun same => ?same, fun legal => ?legal⟩
  case same =>
    obtain ⟨rfl, rfl⟩ := Prod.mk.inj same
    simp [exec, execEncoderTransition, State.event_up _ _ up, commit_self]
  case legal =>
    obtain ⟨changed, notBoth, direction⟩ := legal_transition _ _ _ _ legal
    let v : State := { s.setEncoder a b with elevator := { s.elevator with counter :=
      if (before, (a, b)) ∈ ups then s.elevator.counter + 1 else s.elevator.counter - 1 } }
    have counted : s.countTransition a b = v.counterMoved := by
      simp only [State.countTransition, direction]
      rfl
    have taken : exec (.encoderTransition a b) s = .next (commit s v.counterMoved) := by
      rw [← counted]
      simp only [exec, execEncoderTransition, State.event_up _ _ up, if_neg changed, if_neg notBoth]
    obtain ⟨magazine, gripper, spindle⟩ := commit_quiet s v.counterMoved (by simp [v, State.setEncoder])
      (by simp [v, State.setEncoder]) (by simp [v, State.setEncoder])
    have kept : (commit s v.counterMoved).insertion = v.counterMoved.insertion := by simp
    have elevator : (commit s v.counterMoved).elevator = v.elevator := by simp
    refine ⟨commit s v.counterMoved, taken, elevator, by simp [v, State.setEncoder], fun none_ => ?_,
      fun m loaded => ?_, ?_, ?_, ?frame⟩
    · exact kept.trans (congrArg (·.insertion) (State.counterMoved_none (s := v) none_))
    · have moved : (commit s v.counterMoved).insertion = s.insertion.moved (m.type.near v.elevator.counter) :=
        kept.trans (State.counterMoved_insertion loaded)
      rw [elevator, moved]
      refine ⟨fun k confirmed => ?_, fun none_ => ?_, fun o opened => ?_, fun none_ => ?_, fun o opened first far => ?_⟩
      · simp only [Insertion.moved, confirmed, Option.filter]
      · simp [Insertion.moved, none_]
      · simp [Insertion.moved, opened]
      · simp [Insertion.moved, none_]
      · obtain ⟨pick, magazine⟩ := State.counterMoved_posts (s := v) loaded opened first far
        exact ⟨commit_keepsPending _ _ _ _ pick, commit_keepsPending _ _ _ _ magazine⟩
    · rw [kept]; exact v.counterMoved_rest.1
    · rw [kept]; exact v.counterMoved_rest.2
    case frame =>
      simp only [magazine, gripper, spindle, commit_frame, State.counterMoved_frame]
      rfl

end Sys2Proof.Machine

/-! PROOFS. Homing and the moves: HOME_BEGIN, the reference edge, MOVE_BEGIN and ARRIVED (R119 to R122, R134, R135). -/

namespace Sys2Proof.Machine

open Sys2Proof

/-- A change of insertion control and of the event sets, at its end: a free store may begin a pending write. -/
theorem commit_insertion (s u : State)
    (same : { u with insertion := s.insertion, ports := s.ports } = s) :
    { commit s u with insertion := s.insertion, store := s.store, ports := s.ports } = s := by
  obtain ⟨magazine, gripper, spindle⟩ := commit_quiet s u (congrArg (·.panels) same) (congrArg (·.gripper.claim) same)
    (congrArg (·.magazine) same)
  refine Eq.trans ?_ (congrArg (fun t : State => { t with store := s.store }) same)
  simp [magazine, gripper, spindle]

theorem homeBeginArmsHoming : Says.HomeBeginArmsHoming := by
  intro s p reaches
  refine ⟨fun opened => refuses_of_handler reaches rfl (if_pos opened), fun none_ armed => ?armed, fun none_ idle => ?idle⟩
  all_goals have closed : ¬ s.insertion.insertion.isSome = true := by simp [none_]
  case armed => exact answers_of_handler reaches rfl ((if_neg closed).trans (if_pos armed))
  case idle =>
    obtain ⟨magazine, gripper, spindle⟩ := commit_quiet s s.armHoming (by simp) (by simp) (by simp)
    let v : State := { s with elevator := { s.elevator with armed := true, homed := false } }
    have insertion : s.armHoming.insertion = { s.insertion with
        confirmation := if s.elevator.homed then none else s.insertion.confirmation } := by
      cases homed : s.elevator.homed <;> simp [State.armHoming, homed, State.withdraw_insertion]
    have elevator : s.armHoming.elevator = { s.elevator with armed := true, homed := false } := by
      unfold State.armHoming
      dsimp only
      split <;> simp
    refine ⟨commit s s.armHoming, answers_of_handler reaches rfl ((if_neg closed).trans (if_neg (by simp [idle]))),
      by simpa using elevator, by simpa using insertion, fun k homed bound confirmed => ?_, ?_⟩
    · have withdraws : s.armHoming = v.withdraw := if_pos homed
      rw [withdraws]
      exact commit_keepsPending _ _ _ _
        (State.withdraw_posts (s := v) ((State.boundSlot_of (s := s) (t := v) rfl rfl).trans bound) confirmed)
    · simp [magazine, gripper, spindle]

/-! ### The reference edge -/

theorem State.completeHoming_eq (s : State) :
    ∃ v : State, s.completeHoming = v.counterMoved ∧ v.insertion = s.insertion
      ∧ v.elevator = { s.elevator with counter := s.constants.homePreset, homed := true, armed := false }
      ∧ v.fault .encoderError = { s.fault .encoderError with active := false }
      ∧ ∀ k, k ≠ .encoderError → v.fault k = s.fault k := by
  let t : State := { s with elevator := { s.elevator with
    counter := s.constants.homePreset, homed := true, armed := false } }
  cases active : (s.fault .encoderError).active with
  | true =>
      refine ⟨t.endCondition .encoderError, ?_, by simp [t], by simp [t], t.fault_endCondition_same _,
        fun k other => t.fault_endCondition_ne other⟩
      simp only [State.completeHoming, active, if_true]
      rfl
  | false =>
      refine ⟨t, ?_, rfl, rfl, ?_, fun _ _ => rfl⟩
      · simp only [State.completeHoming, active, Bool.false_eq_true, if_false]
        rfl
      · rw [← active]
        rfl

theorem referenceEdgeCompletesHoming : Says.ReferenceEdgeCompletesHoming := by
  intro s up
  let v : State := { s with lines := { s.lines with reference := true } }
  refine ⟨fun idle => ?_, fun armed => ⟨commit s v.completeHoming, ?taken, ?_⟩⟩
  · simp only [exec, execReferenceEdge, State.event_up _ _ up, idle, Bool.false_eq_true, if_false]
    exact congrArg _ (commit_eq_storeBegin rfl rfl rfl rfl rfl rfl)
  case taken =>
    simp only [exec, execReferenceEdge, State.event_up _ _ up, armed, if_true]
    rfl
  obtain ⟨w, completes, insertion, elevator, ended, others⟩ := v.completeHoming_eq
  obtain ⟨magazine, gripper, spindle⟩ := commit_quiet s v.completeHoming (by simp [v]) (by simp [v]) (by simp [v])
  have table : (commit s v.completeHoming).cell.faults = w.cell.faults := by simp [completes]
  obtain ⟨permission, wait⟩ := w.counterMoved_rest
  refine ⟨?_, ?_, fun k other => ?_, by simp [v], ?_, ?_, by simp [v], magazine.trans (by simp [v]), by simp [v],
    gripper.trans (by simp [v])⟩
  · simpa [completes] using elevator
  · rw [State.fault_of_faults table]; exact ended
  · rw [State.fault_of_faults table]; exact others k other
  · simpa [completes, insertion] using permission
  · simpa [completes, insertion] using wait

/-! ### MOVE_BEGIN and ARRIVED -/

theorem State.beginMove_insertion (s : State) :
    s.beginMove.insertion = { s.insertion with permission := true, confirmation := none } := by
  simp [State.beginMove, State.withdraw_insertion]

theorem State.beginMove_posts {s : State} (bound : s.boundSlot.isSome = true) :
    s.beginMove.isPending .magazine .positionWanted = true := by
  simp only [State.beginMove, State.postIf, bound, if_true]
  exact State.isPending_post _ (by decide)

theorem State.endMove_insertion (s : State) :
    s.endMove.insertion = { s.insertion with permission := false, confirmation := none } := by
  simp [State.endMove, State.withdraw_insertion]

theorem State.endMove_boundSlot (s : State) : s.endMove.boundSlot = s.boundSlot :=
  State.boundSlot_of (by simp) (by simp)

theorem State.confirm_insertion (s : State) (k : Nat) :
    (s.confirm k).insertion = { s.insertion with confirmation := some k } := by
  simp [State.confirm]

theorem movesAndArrivals : Says.MovesAndArrivals := by
  intro s p
  refine ⟨fun reaches => ⟨fun opened => refuses_of_handler reaches rfl (if_pos opened), fun none_ => ?move⟩,
    fun reaches => ⟨fun opened => refuses_of_handler reaches rfl (if_pos opened), fun none_ => ?arrival⟩⟩
  all_goals have closed : ¬ s.insertion.insertion.isSome = true := by simp [none_]
  case move =>
    refine ⟨commit s s.beginMove, answers_of_handler reaches rfl (if_neg closed), ?_, fun bound => ?_,
      commit_insertion s _ (by simp)⟩
    · simpa using s.beginMove_insertion
    · exact commit_keepsPending _ _ _ _ (State.beginMove_posts bound)
  case arrival =>
    intro ended
    have ends : (commit s s.endMove).insertion = ended := by simpa using s.endMove_insertion
    have frame : { commit s s.endMove with insertion := s.insertion, store := s.store, ports := s.ports } = s :=
      commit_insertion s _ (by simp)
    refine ⟨fun unbound => ⟨commit s s.endMove, answers_of_handler reaches rfl ((if_neg closed).trans ?_), ends, frame⟩,
      fun k m bound loaded => ?judged⟩
    · simp only [State.judgeArrival, State.endMove_boundSlot, unbound]
      rfl
    case judged =>
      intro c diff
      have loaded' : s.endMove.magazine.session = some m := by simpa using loaded
      have judge : s.judgeArrival s.endMove
          = if !s.elevator.homed then conclude s s.endMove (.refused .notHomed) fun _ => []
            else if !m.type.near c k then conclude s s.endMove (.refused .offTarget) fun _ => bytes24 diff
            else accept s (s.endMove.confirm k) fun _ => n8 k ++ bytes24 c ++ bytes24 diff := by
        simp only [State.judgeArrival, State.endMove_boundSlot, bound, loaded']
        simp only [State.endMove_frame]
        rfl
      refine ⟨fun lost => ⟨commit s s.endMove, answers_of_handler reaches rfl ((if_neg closed).trans (judge.trans (if_pos (by simp [lost])))),
          ends, frame⟩, fun homed far => ⟨commit s s.endMove, answers_of_handler reaches rfl
            ((if_neg closed).trans (judge.trans ((if_neg (by simp [homed])).trans (if_pos (by simp [far]))))), ends, frame⟩,
        fun homed near => ⟨commit s (s.endMove.confirm k), answers_of_handler reaches rfl
            ((if_neg closed).trans (judge.trans ((if_neg (by simp [homed])).trans (if_neg (by simp [near]))))), ?_, ?_,
          commit_insertion s _ (by simp)⟩⟩
      · have confirmed := s.endMove.confirm_insertion k
        rw [s.endMove_insertion] at confirmed
        simpa using confirmed
      · exact commit_keepsPending _ _ _ _ (State.isPending_post _ (by decide))

/-- Settles O52, by HOME_BEGIN, the reference edge and the moves. -/
theorem homingAndMoves : Obligations.HomingAndMoves :=
  ⟨homeBeginArmsHoming, referenceEdgeCompletesHoming, movesAndArrivals⟩

end Sys2Proof.Machine

/-! PROOFS. The magazine as it is loaded and unloaded, the manifest, the bin and the register repair (R97 to R99, R105,
R106, R111, R113). -/

namespace Sys2Proof.Machine

open Sys2Proof

/-! ### The end of a change of the magazine block -/

/-- A magazine that comes or goes leaves the full mark as the change set it. -/
theorem State.refreshFull_of_none {before after : State}
    (none_ : before.magazine.session = none ∨ after.magazine.session = none) : before.refreshFull after = after := by
  unfold State.refreshFull
  split
  next loadedBefore loadedAfter => simp [loadedBefore, loadedAfter] at none_
  all_goals rfl

theorem commit_magazine_of_none {before after : State}
    (none_ : before.magazine.session = none ∨ after.magazine.session = none) :
    (commit before after).magazine = after.magazine := by
  unfold commit
  rw [State.refreshFull_of_none none_]
  simp

theorem State.refreshWait_of_view {before after : State} (view : after.waitView = before.waitView) :
    before.refreshWait after = after :=
  if_neg fun ⟨_, changed, _⟩ => changed view.symm

/-- When the views of R57 and R31 stand as before, the end of the change only lets a free store begin a write. -/
theorem commit_eq_storeBegin_of_views {before after : State} (panels : after.panels = before.panels)
    (claim : after.gripper.claim = before.gripper.claim)
    (session : after.magazine.session = before.magazine.session) (wait : after.waitView = before.waitView)
    (insertion : after.insertion = before.insertion) (permitted : after.permitted = before.permitted)
    (view : after.grantView = before.grantView) : commit before after = after.storeBegin := by
  unfold commit
  rw [State.refreshFull_of_session session, State.refreshWait_of_view wait, State.handOver_quiet before after panels,
    State.announce_quiet (State.boundSlot_of panels claim) insertion permitted view]

/-! ### The register (R97) -/

/-- With distinct tags the entries of a tag are the one found. -/
theorem filter_tag_eq_singleton {r : List RegisterEntry} {tag : Nat} {e : RegisterEntry}
    (distinct : (r.map (·.tag)).Nodup) (found : r.find? (·.tag == tag) = some e) :
    r.filter (·.tag == tag) = [e] := by
  induction r with
  | nil => simp at found
  | cons x xs ih =>
      obtain ⟨fresh, distinct⟩ := List.nodup_cons.mp distinct
      by_cases same : x.tag = tag
      · obtain rfl : x = e := by simpa [same] using found
        have none_ : xs.filter (·.tag == tag) = [] := by
          rw [List.filter_eq_nil_iff]
          intro y inTail equal
          exact fresh (List.mem_map.mpr ⟨y, inTail, (beq_iff_eq.mp equal).trans same.symm⟩)
        simp [same, none_]
      · have found' : xs.find? (·.tag == tag) = some e := by simpa [same] using found
        simpa [same] using ih distinct found'

/-- A tag that is known goes to the tail with its new type and its damage (R98). -/
theorem fileTag_known {r : List RegisterEntry} {tag type : Nat} {e : RegisterEntry}
    (distinct : (r.map (·.tag)).Nodup) (found : r.find? (·.tag == tag) = some e) :
    fileTag r tag type = r.filter (fun x => x.tag != tag) ++ [{ e with type := type }] := by
  have same : e.tag = tag := by simpa using List.find?_some found
  have known : (r.any (·.tag == tag)) = true :=
    List.any_eq_true.mpr ⟨e, List.mem_of_find?_eq_some found, beq_iff_eq.mpr same⟩
  have touched : (r.map fun e => if e.tag = tag then { e with type := type } else e).filter (·.tag == tag)
      = [{ e with type := type }] := by
    have tagKept : ((·.tag == tag) ∘ fun e : RegisterEntry => if e.tag = tag then { e with type := type } else e)
        = (·.tag == tag) := by
      funext x
      dsimp only [Function.comp]
      split <;> rfl
    rw [List.filter_map, tagKept, filter_tag_eq_singleton distinct found]
    simp [same]
  have others : (r.map fun e => if e.tag = tag then { e with type := type } else e).filter (·.tag != tag)
      = r.filter (·.tag != tag) := by
    rw [List.filter_map]
    have tagKept : ((·.tag != tag) ∘ fun e : RegisterEntry => if e.tag = tag then { e with type := type } else e)
        = (·.tag != tag) := by
      funext x
      dsimp only [Function.comp]
      split <;> rfl
    rw [tagKept]
    refine (List.map_congr_left fun x inOthers => ?_).trans (List.map_id _)
    have other : x.tag ≠ tag := by simpa using (List.mem_filter.mp inOthers).2
    exact if_neg other
  rw [fileTag, if_pos known, touchEntry, touched, others]

theorem fileTag_new {r : List RegisterEntry} {tag type : Nat} (none_ : r.find? (·.tag == tag) = none) :
    fileTag r tag type = (if r.length < 16 then r else r.tail)
      ++ [{ tag := tag, type := type, retired := [], condemned := false }] := by
  have unknown : ¬ (r.any (·.tag == tag)) = true := by simpa using none_
  rw [fileTag, if_neg unknown]
  dsimp only
  split <;> rfl

/-- The entry a session opens with has the damage that the register knew (R99). -/
theorem find_fileTag {r : List RegisterEntry} (tag type : Nat) (distinct : (r.map (·.tag)).Nodup) :
    let old := r.find? (·.tag == tag)
    (fileTag r tag type).find? (·.tag == tag) = some { tag := tag, type := type
                                                       retired := (old.map (·.retired)).getD []
                                                       condemned := (old.map (·.condemned)).getD false } := by
  intro old
  cases found : r.find? (·.tag == tag) with
  | some e =>
      have same : e.tag = tag := by simpa using List.find?_some found
      have others : (r.filter fun x => x.tag != tag).find? (·.tag == tag) = none := by
        rw [List.find?_eq_none]
        intro x inOthers
        simpa using (List.mem_filter.mp inOthers).2
      rw [fileTag_known distinct found, List.find?_append, others]
      simp [old, found, same]
  | none =>
      have others : (if r.length < 16 then r else r.tail).find? (·.tag == tag) = none := by
        rw [List.find?_eq_none] at found ⊢
        split
        · exact found
        · exact fun x inTail => found x (List.mem_of_mem_tail inTail)
      rw [fileTag_new found, List.find?_append, others]
      simp [old, found]

/-! ### MAG_LOADED (R98, R99) -/

/-- What an accepted MAG_LOADED leaves: the register, the session with its full mark, and the save queued. -/
theorem State.loadMagazine_session (s : State) (tag typeNumber : Nat) (type : MagType) :
    let entry := (fileTag s.magazine.register tag typeNumber).find? (·.tag == tag)
    let m := openSession tag typeNumber type ((entry.map (·.retired)).getD []) (entry.any (·.condemned))
    let full := m.condemned || m.slots.all (·.state != .empty)
    let t := s.loadMagazine tag typeNumber type
    t.magazine = { s.magazine with
        register := fileTag s.magazine.register tag typeNumber
        session := some { m with full := if full then some 1 else none } }
      ∧ t.store = ({ s with magazine := t.magazine }.queueSave .register).store
      ∧ (full = true → t.isPending .magazine .unloadWanted = true) := by
  intro entry m full t
  let filed := s.setRegister (fileTag s.magazine.register tag typeNumber)
  let u : State := { filed with magazine := { filed.magazine with session := some m } }
  have register : filed.magazine = { s.magazine with register := fileTag s.magazine.register tag typeNumber } := by
    simp [filed, State.setRegister]
  have loads : t = if full then u.markFull 1 else u := rfl
  cases isFull : full with
  | true =>
      rw [isFull, if_pos rfl] at loads
      have magazine : t.magazine = { s.magazine with
          register := fileTag s.magazine.register tag typeNumber, session := some { m with full := some 1 } } := by
        rw [loads]
        simp [State.markFull, State.modifySession, u, register, m, openSession]
      refine ⟨magazine, ?_, fun _ => ?_⟩
      · rw [loads]
        exact Eq.trans (b := u.store) (by simp [State.markFull]) (State.queueSave_store .register rfl)
      · rw [loads]
        exact State.isPending_post _ (by decide)
  | false =>
      rw [isFull, if_neg Bool.false_ne_true] at loads
      refine ⟨?_, ?_, fun yes => absurd yes Bool.false_ne_true⟩
      · rw [loads]
        simp [u, register, m, openSession]
      · rw [loads]
        exact State.queueSave_store .register rfl

/-- Settles O45, by the checks in their order and by the register entry of the tag. -/
theorem magLoadedOpensASession : Obligations.MagLoadedOpensASession := by
  intro s p tag type reaches safe i
  obtain ⟨_, distinct⟩ := safe
  refine ⟨fun outside => refuses_of_handler reaches rfl (by simp [fin4_outside outside]), fun n number =>
    ⟨fun loaded => refuses_of_handler reaches rfl ?loaded, fun none_ closed => refuses_of_handler reaches rfl ?closed,
      fun none_ open_ => ?accepted⟩⟩
  case loaded => simp [fin4_of_eq_succ number, loaded]
  case closed => simp [fin4_of_eq_succ number, none_, closed]
  case accepted =>
    let u := s.loadMagazine tag.toNat type.toNat s.constants.types[n]
    obtain ⟨magazine, store, told⟩ := s.loadMagazine_session tag.toNat type.toNat s.constants.types[n]
    rw [find_fileTag tag.toNat type.toNat distinct] at magazine told
    have same : (commit s u).magazine = u.magazine := commit_magazine_of_none (.inl none_)
    have spindle : (commit s u).spindle = s.spindle := (commit_spindle s u (by simp [u])).trans (by simp [u])
    refine ⟨commit s u, ?answer, ?session, fun full => ?full, fun e known => ?known, fun unknown => ?new, ?closed, ?bin,
      by simp [u], by rw [commit_queue]; simp [u], ?store, ?frame⟩
    case session => rw [same, magazine]; rfl
    case answer =>
      refine answers_of_handler reaches rfl ?_
      simp only [fin4_of_eq_succ number, none_, open_, Option.isSome_none, Bool.false_eq_true, if_false]
      refine Prod.ext rfl (congrArg (Reply.mk _) ?_)
      dsimp only
      rw [same, magazine]
      rfl
    case full => exact commit_keepsPending _ _ _ _ (told full)
    case known => rw [same, magazine]; exact fileTag_known distinct known
    case new => rw [same, magazine]; exact fileTag_new unknown
    case closed => rw [same, magazine]; exact open_
    case bin => rw [same, magazine]
    case store =>
      rw [commit_store, same]
      refine State.storeBegin_store store ?_ ?_ ?_ <;> simp [u]
    case frame =>
      simp only [commit_frame, spindle]
      simp [u]

end Sys2Proof.Machine

/-! PROOFS. MAG_UNLOAD, MANIFEST_RELEASE, BIN_EMPTIED and REGISTER_REPAIR (R105, R106, R111, R113). -/

namespace Sys2Proof.Machine

open Sys2Proof

/-! ### MAG_UNLOAD -/

theorem SlotState.unsettled_iff (x : SlotState) :
    x.unsettled = true ↔ ∃ id, x = .reserved id ∨ x = .doubt id := by
  cases x <;> simp [SlotState.unsettled]

/-- What an accepted MAG_UNLOAD leaves (R105). -/
theorem State.unloadMagazine_blocks (s : State) (m : Session) :
    (s.unloadMagazine m).magazine = { s.magazine with
        register := touchEntry s.magazine.register m.tag
        session := none
        closed := some { tag := m.tag, typeNumber := m.typeNumber, entries := m.manifest } }
      ∧ (s.unloadMagazine m).insertion = { s.insertion with confirmation := none }
      ∧ (s.unloadMagazine m).store = (s.queueSave .register).store
      ∧ (s.unloadMagazine m).isPending .cell .manifestReady = true := by
  refine ⟨?_, ?_, ?_, State.isPending_post _ (by decide)⟩
  · simp [State.unloadMagazine, State.setRegister]
  · simp [State.unloadMagazine, State.withdraw_insertion]
  · have withdrawn : s.withdraw.store = s.store := by simp
    refine Eq.trans ?_ (State.queueSave_store (s := s) (t := { s.withdraw with
      magazine := { s.withdraw.magazine with register := touchEntry s.magazine.register m.tag } }) .register withdrawn)
    simp [State.unloadMagazine, State.setRegister]

theorem magUnloadClosesTheManifest : Says.MagUnloadClosesTheManifest := by
  intro s p reaches
  refine ⟨fun none_ => refuses_of_handler reaches rfl (by simp [none_]), fun m loaded => ?_⟩
  intro unsettled
  have test : (m.slots.any fun x => x.state.unsettled) = true ↔ unsettled := by
    simp only [List.any_eq_true, SlotState.unsettled_iff, unsettled]
  refine ⟨fun busy => refuses_of_handler reaches rfl ?busy, fun settled closed => ?accepted⟩
  case busy =>
    have taken : ((m.slots.any fun x => x.state.unsettled) || s.insertion.insertion.isSome) = true := by
      rw [Bool.or_eq_true, test]
      exact busy
    simp [loaded, taken]
  case accepted =>
    obtain ⟨magazine, insertion, store, told⟩ := s.unloadMagazine_blocks m
    have free : ¬ ((m.slots.any fun x => x.state.unsettled) || s.insertion.insertion.isSome) = true := by
      rw [Bool.or_eq_true, test]
      rintro (open_ | open_)
      · exact settled open_
      · simp [closed] at open_
    have same : (commit s (s.unloadMagazine m)).magazine = (s.unloadMagazine m).magazine :=
      commit_magazine_of_none (.inr (by rw [magazine]))
    have spindle : (commit s (s.unloadMagazine m)).spindle = s.spindle :=
      (commit_spindle s _ (by simp)).trans (by simp)
    refine ⟨commit s (s.unloadMagazine m), ?answer, same.trans magazine, by simpa using insertion,
      commit_keepsPending _ _ _ _ told, by simp, by rw [commit_queue]; simp, ?store, ?frame⟩
    case answer =>
      refine answers_of_handler reaches rfl ?_
      simp only [loaded, if_neg free]
      rfl
    case store =>
      rw [commit_store, same]
      refine State.storeBegin_store (store.trans ?_) ?_ ?_ ?_
      · refine (State.queueSave_store .register ?_).symm
        rfl
      all_goals simp
    case frame =>
      simp only [commit_frame, spindle]
      simp

/-! ### MANIFEST_RELEASE, BIN_EMPTIED and REGISTER_REPAIR -/

/-- A change of the closed manifest, the register and the store is of no account to the rest of the part. -/
theorem commit_magazine_edit (s u : State) {magazine : MagazineMap}
    (same : { u with magazine := s.magazine, store := s.store } = s) (is : u.magazine = magazine)
    (session : magazine.session = s.magazine.session) (count : magazine.binCount = s.magazine.binCount)
    (capacity : magazine.binCapacity = s.magazine.binCapacity) : commit s u = u.storeBegin := by
  have panels : u.panels = s.panels := congrArg (·.panels) same
  have gripper : u.gripper = s.gripper := congrArg (·.gripper) same
  have claimed : u.claimed = s.claimed := State.claimed_of panels (by rw [gripper])
  refine commit_eq_storeBegin_of_views panels (by rw [gripper]) (by rw [is, session]) ?_ (congrArg (·.insertion) same)
    ?_ ?_
  · simp [State.waitView, is, session, count, capacity, claimed]
  · have permitted := congrArg State.permitted same
    exact permitted
  · have view := congrArg State.grantView same
    exact view

/-- The bin emptied: its count, and REJECT_FULL no longer active (R111). -/
theorem State.emptyBin_blocks (s : State) :
    s.emptyBin.magazine = { s.magazine with binCount := 0 } ∧ (s.emptyBin.fault .rejectFull).active = false
      ∧ ∀ k, k ≠ .rejectFull → s.emptyBin.fault k = s.fault k := by
  let t : State := { s with magazine := { s.magazine with binCount := 0 } }
  cases active : (s.fault .rejectFull).active with
  | true =>
      have ends : s.emptyBin = t.endCondition .rejectFull := if_pos active
      rw [ends]
      refine ⟨by simp [t], ?_, fun k other => t.fault_endCondition_ne other⟩
      rw [State.fault_endCondition_same]
  | false =>
      have stays : s.emptyBin = t := if_neg (by simp [active])
      rw [stays]
      exact ⟨rfl, active, fun _ _ => rfl⟩

theorem manifestBinAndRegisterRequests : Says.ManifestBinAndRegisterRequests := by
  intro s p
  refine ⟨fun reaches => ⟨fun none_ => refuses_of_handler reaches rfl (by simp [none_]), fun closed => ?release⟩,
    fun reaches => ?bin, fun reaches tag => ⟨fun unknown => refuses_of_handler reaches rfl ?unknown,
      fun e known tagged => ⟨fun m loaded same => refuses_of_handler reaches rfl ?inUse, fun free => ?repair⟩⟩⟩
  case release =>
    obtain ⟨c, closed⟩ := Option.isSome_iff_exists.mp closed
    refine answers_of_handler reaches rfl ?_
    simp only [closed]
    have committed := commit_magazine_edit s { s with magazine := { s.magazine with closed := none } } rfl rfl rfl rfl rfl
    exact congrArg (fun t => (t, Reply.bare .accepted)) committed
  case bin =>
    obtain ⟨magazine, ended, others⟩ := s.emptyBin_blocks
    have table : (commit s s.emptyBin).cell.faults = s.emptyBin.cell.faults := by simp
    refine ⟨commit s s.emptyBin, answers_of_handler reaches rfl rfl,
      (commit_magazine (by rw [magazine])).trans magazine, ?_, fun k other => ?_, by simp, by simp, by simp,
      by rw [commit_queue]; simp, (commit_spindle s _ (by simp)).trans (by simp)⟩
    · rw [State.fault_of_faults table]; exact ended
    · rw [State.fault_of_faults table]; exact others k other
  case unknown =>
    have none_ : (s.magazine.register.any (·.tag == tag.toNat)) = false := by simpa using unknown
    simp [none_]
  all_goals
    have known' : (s.magazine.register.any (·.tag == tag.toNat)) = true :=
      List.any_eq_true.mpr ⟨e, known, beq_iff_eq.mpr tagged⟩
  case inUse => simp [known', loaded, same]
  case repair =>
    have elsewhere : (s.magazine.session.any (·.tag == tag.toNat)) = false := by
      cases loaded : s.magazine.session with
      | none => rfl
      | some m => simpa using free m loaded
    intro repaired
    refine answers_of_handler reaches rfl ?_
    simp only [known', elsewhere, Bool.not_true, Bool.false_eq_true, if_false]
    have committed := commit_magazine_edit s (repaired.queueSave .register) (magazine := repaired.magazine)
      (by simp [repaired]) (by simp) rfl rfl rfl
    exact congrArg (fun t => (t, Reply.bare .accepted)) committed

/-- Settles O48, by MAG_UNLOAD and the three requests on the manifest, the bin and the register. -/
theorem unloadManifestBinAndRepair : Obligations.UnloadManifestBinAndRepair :=
  ⟨magUnloadClosesTheManifest, manifestBinAndRegisterRequests⟩

end Sys2Proof.Machine

/-! PROOFS. A board's change of state and the re-examination of its record; and the end of a change of the slot map (R15,
R16, R57, R101). -/

namespace Sys2Proof.Machine

open Sys2Proof

/-! ### The record of a board that changes state -/

/-- The panel record of a board that has changed state, re-examined (R15, R16). -/
def Panel.moved (p : Panel) (b : Nat) (st : BoardState) : Panel :=
  { p.moveBoard b st with state := (p.moveBoard b st).settled }

theorem Panel.tally_counts (p : Panel) (st : BoardState) :
    (p.tally st).state = p.state ∧ (p.tally st).recipe = p.recipe
      ∧ (p.tally st).stowed = p.stowed + (if st = .stowed then 1 else 0)
      ∧ (p.tally st).rejected = p.rejected + (if st = .rejected then 1 else 0)
      ∧ (p.tally st).lost = p.lost + (if st = .lost then 1 else 0)
      ∧ (p.tally st).abandoned = p.abandoned + (if st = .abandoned then 1 else 0) := by
  cases st <;> simp [Panel.tally]

theorem Panel.settled_eq (p : Panel) :
    p.settled = match p.state with
      | .active f => if (p.boards.any fun x => x.state.attached) then .active f
          else if (p.boards.all fun x => x.state.terminal) then .finished else .draining
      | .draining => if (p.boards.all fun x => x.state.terminal) then .finished else .draining
      | .finished => .finished := by
  cases state : p.state <;> simp only [Panel.settled, Panel.drained, state]
  case active f => cases p.boards.any fun x => x.state.attached <;> rfl

/-- A record replaced, with what follows when it thereby becomes FINISHED (R16). -/
def State.putRecord (s : State) (i : Fin 4) (p q : Panel) : State :=
  if q.state = .finished ∧ p.state ≠ .finished then ((s.setRecord i (some q)).post .cell .panelDone).queueSave .bit
  else s.setRecord i (some q)

theorem State.reexamine_modifyPanel {s : State} {i : Fin 4} {p : Panel} (record : s.panels.records[i] = some p)
    (f : Panel → Panel) (state : (f p).state = p.state) :
    (s.modifyPanel i f).reexamine i = s.putRecord i p { f p with state := (f p).settled } := by
  have changed : (s.modifyPanel i f).panels.records[i] = some (f p) := by
    rw [State.modifyPanel, State.setRecord_records, if_pos rfl, record, Option.map_some]
  have again : (s.modifyPanel i f).setRecord i (some { f p with state := (f p).settled })
      = s.setRecord i (some { f p with state := (f p).settled }) := by
    simp [State.modifyPanel, State.setRecord]
  unfold State.reexamine
  rw [changed]
  simp only [again, state]
  rfl

theorem State.moveBoard_eq {s : State} {i : Fin 4} {p : Panel} (record : s.panels.records[i] = some p) (b : Nat)
    (st : BoardState) : s.moveBoard i b st = s.putRecord i p (p.moved b st) :=
  State.reexamine_modifyPanel record _ ((p.modifyBoard b fun board => { board with state := st }).tally_counts st).1

@[simp] theorem State.putRecord_panels (s : State) (i : Fin 4) (p q : Panel) :
    (s.putRecord i p q).panels = { s.panels with records := s.panels.records.set i (some q) } := by
  unfold State.putRecord
  split
  · simp [State.setRecord]
  · rfl

/-- What a replaced record leaves alone, and what becoming FINISHED brings. -/
theorem State.putRecord_follows (s : State) (i : Fin 4) (p q : Panel) :
    (q.state = .finished → p.state ≠ .finished → (s.putRecord i p q).isPending .cell .panelDone = true
        ∧ (s.putRecord i p q).store = (s.queueSave .bit).store)
      ∧ (¬ (q.state = .finished ∧ p.state ≠ .finished) → { s.putRecord i p q with panels := s.panels } = s)
      ∧ { s.putRecord i p q with panels := s.panels, store := s.store, ports := s.ports } = s := by
  refine ⟨fun finished running => ?_, fun stays => ?_, ?_⟩
  · have done : s.putRecord i p q = ((s.setRecord i (some q)).post .cell .panelDone).queueSave .bit :=
      if_pos ⟨finished, running⟩
    rw [done]
    exact ⟨((State.Posts.refl _).queueSave _).posted (by decide),
      State.queueSave_store .bit (by simp [State.setRecord])⟩
  · rw [State.putRecord, if_neg stays]
    rfl
  · unfold State.putRecord
    split
    · simp [State.setRecord]
    · rfl

/-- Settles O26, by what the record of a changed board becomes and by whether it is then FINISHED. -/
theorem boardMovesReexamineTheRecord : Obligations.BoardMovesReexamineTheRecord := by
  intro s i b st panel board record found t
  have moves : t = s.putRecord i panel (panel.moved b st) := State.moveBoard_eq record b st
  obtain ⟨state, recipe, stowed, rejected, lost, abandoned⟩ :=
    (panel.modifyBoard b fun board => { board with state := st }).tally_counts st
  have boards : (panel.moved b st).boards = modify1 panel.boards b fun board => { board with state := st } :=
    Panel.moveBoard_boards panel b st
  obtain ⟨finishes, stays, frame⟩ := s.putRecord_follows i panel (panel.moved b st)
  rw [moves]
  refine ⟨panel.moved b st, State.putRecord_panels _ _ _ _, ?_, fun c other => ?_, recipe, Panel.moveBoard_serial panel b st,
    stowed, rejected, lost, abandoned, ?_, finishes, stays, frame⟩
  · rw [boards, nth1_modify1, if_pos rfl, found, Option.map_some]
  · rw [boards, nth1_modify1, if_neg other]
  · have settled : (panel.moved b st).state = _ := Panel.settled_eq (panel.moveBoard b st)
    have before : (panel.moveBoard b st).state = panel.state := state
    rw [before] at settled
    exact settled

/-! ### The end of a change of the slot map (R57, R101) -/

/-- The end of a change touches the full mark of the session, and nothing else of the magazine map. -/
theorem commit_session (before after : State) :
    ∃ full : Session → Option Nat, (commit before after).magazine
      = { after.magazine with session := after.magazine.session.map fun m => { m with full := full m } } := by
  have unchanged : ∃ full : Session → Option Nat, after.magazine
      = { after.magazine with session := after.magazine.session.map fun m => { m with full := full m } } :=
    ⟨(·.full), by simp⟩
  have magazine : (commit before after).magazine = (before.refreshFull after).magazine := by simp [commit]
  rw [magazine]
  unfold State.refreshFull
  split
  · split
    · exact unchanged
    · split
      · exact ⟨fun m => some (if m.full = some 1 then 1 else 1), by simp [State.markFull, State.modifySession]⟩
      · split
        · split
          · exact ⟨fun _ => none, rfl⟩
          · exact unchanged
        · exact unchanged
  · exact unchanged
  · exact unchanged

/-- What the full mark is no part of, a session keeps to the end of a change. -/
theorem commit_session_map {α : Type} (before after : State) (f : Session → α)
    (f_full : ∀ m x, f { m with full := x } = f m) :
    (commit before after).magazine.session.map f = after.magazine.session.map f := by
  obtain ⟨full, magazine⟩ := commit_session before after
  rw [magazine]
  simp [Function.comp_def, f_full]

/-- Without a destination wait the tracker stays as the change left it (R57). -/
theorem commit_gripper_noWait {before after : State} (noWait : after.gripper.wait = none) :
    (commit before after).gripper = after.gripper := by
  have quiet : before.refreshWait (before.refreshFull after) = before.refreshFull after := by
    unfold State.refreshWait
    refine if_neg ?_
    rintro ⟨waits, -⟩
    simp [noWait] at waits
  simp [commit, quiet]

end Sys2Proof.Machine

/-! PROOFS. A change of one board: what it means for the panel table, said once, with the operations that make one (R10,
R12, R15, R19). -/

namespace Sys2Proof.Machine

open Sys2Proof

/-! ### One board changed -/

/-- What a panel record has besides its state and its counts. -/
def Panel.key (p : Panel) : Nat × Fin 4 × List Board := (p.serial, p.recipe, p.boards)

/-- The panel table of t is that of s with f applied to one board; the states and counts of the records are left open. -/
def State.BoardChanged (s t : State) (i : Fin 4) (b : Nat) (f : Board → Board) : Prop :=
  ∀ j : Fin 4, (t.panels.records[j]).map Panel.key
    = (s.panels.records[j]).map fun p => (p.serial, p.recipe, if j = i then modify1 p.boards b f else p.boards)

theorem modify1_modify1 {α : Type} (l : List α) (b : Nat) (f g : α → α) :
    modify1 (modify1 l b f) b g = modify1 l b (g ∘ f) := by
  unfold modify1
  split
  · rfl
  · rw [List.modify_modify_eq]

theorem modify1_id {α : Type} (l : List α) (b : Nat) : modify1 l b id = l := by
  unfold modify1
  split <;> simp

namespace State.BoardChanged

variable {s t u : State} {i : Fin 4} {b : Nat} {f g : Board → Board}

theorem refl (s : State) (i : Fin 4) (b : Nat) : s.BoardChanged s i b id := by
  intro j
  simp only [modify1_id, ite_self]
  rfl

theorem same (h : s.BoardChanged t i b f) (panels : u.panels = t.panels) : s.BoardChanged u i b f := by
  intro j
  rw [panels]
  exact h j

theorem trans (first : s.BoardChanged t i b f) (second : t.BoardChanged u i b g) : s.BoardChanged u i b (g ∘ f) := by
  intro j
  have one := first j
  have two := second j
  cases before : s.panels.records[j] with
  | none =>
      simp only [before, Option.map_none, Option.map_eq_none_iff] at one
      simpa [one] using two
  | some p =>
      simp only [before, Option.map_some, Option.map_eq_some_iff] at one
      obtain ⟨q, between, key⟩ := one
      obtain ⟨serial, recipe, boards⟩ : q.serial = p.serial ∧ q.recipe = p.recipe
          ∧ q.boards = if j = i then modify1 p.boards b f else p.boards := by simpa [Panel.key] using key
      rw [between] at two
      rw [two]
      simp only [Option.map_some, serial, recipe, boards]
      split <;> simp [modify1_modify1]

theorem congr (h : s.BoardChanged t i b f) (eq : f = g) : s.BoardChanged t i b g := eq ▸ h

theorem modifyBoard (h : s.BoardChanged t i b f) (g : Board → Board) :
    s.BoardChanged (t.modifyBoard i b g) i b (g ∘ f) := by
  refine h.trans fun j => ?_
  rw [State.modifyBoard, State.modifyPanel, State.setRecord_records]
  by_cases own : j = i
  · subst own
    cases t.panels.records[j] <;> simp [Panel.key, Panel.modifyBoard]
  · cases t.panels.records[j] <;> simp [Panel.key, own]

theorem moveBoard (h : s.BoardChanged t i b f) (st : BoardState) :
    s.BoardChanged (t.moveBoard i b st) i b ((fun board => { board with state := st }) ∘ f) := by
  refine h.trans fun j => ?_
  have recipe (p : Panel) : (p.moveBoard b st).recipe = p.recipe :=
    ((p.modifyBoard b fun board => { board with state := st }).tally_counts st).2.1
  rw [State.moveBoard_records]
  by_cases own : j = i
  · subst own
    cases t.panels.records[j] <;> simp [Panel.key, recipe]
  · cases t.panels.records[j] <;> simp [Panel.key, own]

/-- The end of a change leaves the panel table. -/
theorem commit (h : s.BoardChanged t i b f) (before : State) : s.BoardChanged (commit before t) i b f := h.same (by simp)

theorem setDestination (h : s.BoardChanged t i b f) (d : Option Destination) :
    s.BoardChanged (t.setDestination i b d) i b ((fun board => { board with destination := d }) ∘ f) :=
  h.modifyBoard _

/-! #### What follows from it -/

theorem boardAt (h : s.BoardChanged t i b f) (j : Fin 4) (c : Nat) :
    t.boardAt j c = if j = i ∧ c = b then (s.boardAt j c).map f else s.boardAt j c := by
  have record := h j
  rw [State.boardAt_eq, State.boardAt_eq]
  cases before : s.panels.records[j] with
  | none =>
      simp only [before, Option.map_none, Option.map_eq_none_iff] at record
      simp [record]
  | some p =>
      simp only [before, Option.map_some, Option.map_eq_some_iff] at record
      obtain ⟨q, after, key⟩ := record
      have boards : q.boards = if j = i then modify1 p.boards b f else p.boards := congrArg (·.2.2) key
      simp only [after, Option.bind_some, boards]
      by_cases own : j = i
      · simp [own, nth1_modify1]
      · simp [own]

/-- The board in its new form, and every other board as it was. -/
theorem boards (h : s.BoardChanged t i b f) {board : Board} (found : s.boardAt i b = some board) :
    t.boardAt i b = some (f board) ∧ BoardsElsewhere s t i b := by
  refine ⟨by rw [h.boardAt, found]; simp, fun j c other => ?_⟩
  rw [h.boardAt, if_neg other]

theorem recordOfSerial (h : s.BoardChanged t i b f) (serial : Nat) :
    t.recordOfSerial serial = s.recordOfSerial serial := by
  have tests : ∀ j : Fin 4, (t.panels.records[j]).any (·.serial == serial)
      = (s.panels.records[j]).any (·.serial == serial) := by
    intro j
    have serials := congrArg (Option.map (·.1)) (h j)
    simp only [Option.map_map, Function.comp_def, Panel.key] at serials
    cases after : t.panels.records[j] <;> cases before : s.panels.records[j] <;> simp_all
  simp only [State.recordOfSerial, State.findRecord, tests]

/-- The changed board is found where it was, in a panel of the same serial and recipe. -/
theorem locate (h : s.BoardChanged t i b f) {l : Located} (found : s.locate i b = some l) :
    ∃ p : Panel, t.locate i b = some { l with panel := p, board := f l.board } ∧ p.serial = l.panel.serial
      ∧ p.recipe = l.panel.recipe := by
  obtain ⟨p, record, there⟩ := Option.bind_eq_some_iff.mp found
  obtain ⟨board, stands, rfl⟩ := Option.map_eq_some_iff.mp there
  have changed := h i
  simp only [record, Option.map_some, Option.map_eq_some_iff, if_true] at changed
  obtain ⟨q, after, key⟩ := changed
  obtain ⟨serial, recipe, boards⟩ : q.serial = p.serial ∧ q.recipe = p.recipe ∧ q.boards = modify1 p.boards b f := by
    simpa [Panel.key] using key
  refine ⟨q, ?_, serial, recipe⟩
  simp [State.locate, after, boards, nth1_modify1, stands]

theorem locateId (h : s.BoardChanged t i b f) {id : BoardId} {l : Located} (found : s.locateId id = some l)
    (record : l.record = i) (index : l.index = b) :
    ∃ p : Panel, t.locateId id = some { l with panel := p, board := f l.board } ∧ p.serial = l.panel.serial
      ∧ p.recipe = l.panel.recipe := by
  subst record index
  obtain ⟨j, named, located⟩ := Option.bind_eq_some_iff.mp found
  obtain ⟨serial, board, -, -⟩ := State.locateId_eq_some found
  obtain rfl : j = l.record := by simpa [serial] using named.symm
  rw [← board] at located
  obtain ⟨p, after, rest⟩ := h.locate located
  refine ⟨p, ?_, rest⟩
  rw [State.locateId, h.recordOfSerial, serial, Option.bind_some, ← board]
  exact after

theorem review (h : s.BoardChanged t i b f) {l : Located} (found : t.locate i b = some l) :
    s.BoardChanged (t.review i b) i b ((fun board => { board with review := t.reviewOf l }) ∘ f) := by
  unfold State.review
  rw [found]
  exact h.modifyBoard _

end State.BoardChanged

/-- The review reason reads the tabs, the state and the name of a board, and the slots (R19). -/
theorem State.reviewOf_congr {s t : State} {l m : Located} (tabs : m.board.tabs = l.board.tabs)
    (state : m.board.state = l.board.state) (id : m.id = l.id)
    (slots : (t.magazine.session.map (·.slots)) = s.magazine.session.map (·.slots)) : t.reviewOf m = s.reviewOf l := by
  have open_ : t.seatDoubtOpen m = s.seatDoubtOpen l := by
    have any : (t.magazine.session.any fun u => u.slots.any fun x => x.state == .doubt l.id)
        = s.magazine.session.any fun u => u.slots.any fun x => x.state == .doubt l.id := by
      have := congrArg (Option.any fun slots : List Slot => slots.any fun x => x.state == .doubt l.id) slots
      simpa [Option.any_map] using this
    simp only [State.seatDoubtOpen, state, id, any]
  simp only [State.reviewOf, tabs, open_]

/-- The board that a selector and an index name stands there. -/
theorem State.locate_of_selected {s : State} {sel : Selector} {b : Nat} {l : Located}
    (found : s.locateSelected sel b = some l) : s.locate l.record l.index = some l := by
  obtain ⟨i, -, located⟩ := Option.bind_eq_some_iff.mp found
  have stands := located
  obtain ⟨p, -, there⟩ := Option.bind_eq_some_iff.mp located
  obtain ⟨board, -, rfl⟩ := Option.map_eq_some_iff.mp there
  exact stands

theorem State.locate_of_id {s : State} {id : BoardId} {l : Located} (found : s.locateId id = some l) :
    s.locate l.record l.index = some l := by
  obtain ⟨i, -, located⟩ := Option.bind_eq_some_iff.mp found
  have stands := located
  obtain ⟨p, -, there⟩ := Option.bind_eq_some_iff.mp located
  obtain ⟨board, -, rfl⟩ := Option.map_eq_some_iff.mp there
  exact stands

theorem State.boardAt_of_locate {s : State} {l : Located} (found : s.locate l.record l.index = some l) :
    s.boardAt l.record l.index = some l.board := by
  simp [State.boardAt, found]

/-- The answer's state byte is that of the board as the change leaves it. -/
theorem State.boardCode_of {t : State} {l : Located} {board : Board}
    (after : t.boardAt l.record l.index = some board) : t.boardCode l = [BitVec.ofNat 8 board.state.code] := by
  obtain ⟨m, located, rfl⟩ := Option.map_eq_some_iff.mp after
  simp [State.boardCode, located, n8]

end Sys2Proof.Machine

/-! PROOFS. DIVERT, CLAIM_NEXT and CLAIM (R46, R50, R51, R59). -/

namespace Sys2Proof.Machine

open Sys2Proof

/-! ### A board loosened (R60) -/

/-- The board as it stands when it is loosened: LOOSE, without a destination. -/
def Board.loosened (board : Board) : Board := { board with state := .loose, destination := none }

theorem State.BoardChanged.loosen {s t : State} {l : Located} {f : Board → Board}
    (h : s.BoardChanged t l.record l.index f) :
    s.BoardChanged (t.loosen l) l.record l.index (Board.loosened ∘ f) := by
  have released : s.BoardChanged (t.release l) l.record l.index ((fun board => { board with destination := none }) ∘ f) :=
    (h.same (u := t.modifySession fun m => m.restate (.reserved l.id) .empty) (by simp)).setDestination none
  exact (released.moveBoard .loose).same (by simp [State.loosen])

theorem State.loosen_session (s : State) (l : Located) :
    (s.loosen l).magazine = (s.modifySession fun m => m.restate (.reserved l.id) .empty).magazine := by
  simp [State.loosen, State.release]

theorem State.loosen_posts (s : State) (l : Located) : (s.loosen l).isPending .pick .destinationReady = true :=
  State.isPending_post _ (by decide)

/-! ### DIVERT -/

/-- The board with its flag set. -/
def Board.diverted (board : Board) : Board := { board with divert := true }

theorem State.divertBoard_bound {s : State} {l : Located} {k : Nat} (bound : l.board.state = .bound)
    (slot : l.board.destination = some (.slot k)) :
    s.divertBoard l = (s.modifyBoard l.record l.index Board.diverted).loosen l := by
  simp only [State.divertBoard, bound, slot]
  rfl

theorem State.divertBoard_flag {s : State} {l : Located}
    (other : l.board.state ≠ .bound ∨ l.board.destination = some .reject ∨ l.board.destination = none) :
    s.divertBoard l = s.modifyBoard l.record l.index Board.diverted := by
  unfold State.divertBoard
  dsimp only
  split
  next bound slot => rcases other with other | other | other <;> simp_all
  next => rfl

/-- Settles O29, by the state of the board, its flag and its destination. -/
theorem divertSetsTheFlag : Obligations.DivertSetsTheFlag := by
  intro s p sel b reaches
  refine ⟨fun none_ => refuses_of_handler reaches rfl (by simp [none_]), fun l named =>
    ⟨fun terminal => refuses_of_handler reaches rfl (by simp [named, terminal]), fun living already =>
      answers_of_handler reaches rfl (by simp [named, living, already, respond, n8]), fun living clear =>
        ⟨fun k bound slot => ?bound, fun other => ?other⟩⟩⟩
  all_goals
    have found := State.locate_of_selected named
    have stands := State.boardAt_of_locate found
    have flagged : s.BoardChanged (s.modifyBoard l.record l.index Board.diverted) l.record l.index Board.diverted :=
      (State.BoardChanged.refl s l.record l.index).modifyBoard _
    have handled (t : State) (body : List Byte) (is : s.divertBoard l = t) (code : (commit s t).boardCode l = body) :
        Answers (.divert p sel b) s (commit s t) p 26 .accepted body := by
      refine answers_of_handler reaches rfl ?_
      simp only [named, living, clear, Bool.false_eq_true, if_false]
      rw [is, accept, conclude, code]
  case bound =>
    have eq := State.divertBoard_bound (s := s) bound slot
    obtain ⟨board, elsewhere⟩ := (flagged.loosen.commit s).boards stands
    have code := State.boardCode_of board
    refine ⟨_, handled _ _ eq code, board, elsewhere,
      commit_keepsPending _ _ _ _ (State.loosen_posts _ _), ?_, by simp, by rw [commit_queue]; simp, by simp⟩
    rw [commit_session_map _ _ _ fun _ _ => rfl, State.loosen_session]
    simp [State.modifySession, Session.restate, Function.comp_def]
  case other =>
    have eq := State.divertBoard_flag (s := s) other
    obtain ⟨board, elsewhere⟩ := (flagged.commit s).boards stands
    have code := State.boardCode_of board
    refine ⟨_, handled _ _ eq code, board, elsewhere, ?_, by simp, by rw [commit_queue]; simp,
      by simp⟩
    rw [commit_magazine (by simp)]
    simp

/-! ### CLAIM_NEXT and CLAIM -/

theorem flagged_iff (board : Board) : board.flagged = true ↔ board.review ≠ none := by
  simp [Board.flagged, Option.isSome_iff_ne_none]

/-- The walk takes a board that passes when none ahead of it in the queue does. -/
theorem State.walkQueue_some {s : State} {test : Located → Bool} {ahead behind : List BoardId} {id : BoardId}
    {l : Located} (queue : s.gripper.queue = ahead ++ id :: behind) (found : s.locateId id = some l)
    (clear : l.board.review = none) (passes : test l = true)
    (first : ∀ x ∈ ahead, ∀ m, s.locateId x = some m → m.board.review ≠ none ∨ test m = false) :
    s.walkQueue test = some l := by
  have skipped : (ahead.filterMap s.locateId).find? (fun l => !l.board.flagged && test l) = none := by
    rw [List.find?_eq_none]
    intro m inAhead
    obtain ⟨x, inQueue, located⟩ := List.mem_filterMap.mp inAhead
    rcases first x inQueue m located with flagged | fails
    · simp [(flagged_iff m.board).mpr flagged]
    · simp [fails]
  have unflagged : l.board.flagged = false := by simp [Board.flagged, clear]
  rw [State.walkQueue, queue, List.filterMap_append, List.find?_append, skipped]
  simp [found, unflagged, passes]

theorem State.walkQueue_none {s : State} {test : Located → Bool}
    (all : ∀ x ∈ s.gripper.queue, ∀ m, s.locateId x = some m → m.board.review ≠ none ∨ test m = false) :
    s.walkQueue test = none := by
  rw [State.walkQueue, List.find?_eq_none]
  intro m inQueue
  obtain ⟨x, queued, located⟩ := List.mem_filterMap.mp inQueue
  rcases all x queued m located with flagged | fails
  · simp [(flagged_iff m.board).mpr flagged]
  · simp [fails]

theorem claimNextPrefersTheServedPanel : Says.ClaimNextPrefersTheServedPanel := by
  intro s
  have served (l : Located) : (s.servedPanel == some l.record) = false ↔ s.servedPanel ≠ some l.record := by simp
  refine ⟨fun ahead id behind l queue found clear isServed first => ?_,
    fun ahead id behind l queue found clear noneServed first => ?_, fun all => ?_⟩
  · have walk : s.walkQueue (fun l => s.servedPanel == some l.record) = some l :=
      State.walkQueue_some queue found clear (by simp [isServed]) fun x inAhead m located =>
        (first x inAhead m located).imp_right (served m).mpr
    simp only [State.nextClaim, walk]
  · have walk : s.walkQueue (fun l => s.servedPanel == some l.record) = none :=
      State.walkQueue_none fun x queued m located => (noneServed x queued m located).imp_right (served m).mpr
    simp only [State.nextClaim, walk]
    exact State.walkQueue_some queue found clear rfl fun x inAhead m located => .inl (first x inAhead m located)
  · simp only [State.nextClaim,
      State.walkQueue_none (test := fun l => s.servedPanel == some l.record) fun x queued m located =>
        .inl (all x queued m located)]
    exact State.walkQueue_none fun x queued m located => .inl (all x queued m located)

/-- A claimed board is found under its own name. -/
theorem State.nextClaim_located {s : State} {l : Located} (next : s.nextClaim = some l) :
    s.locateId l.id = some l := by
  have walked (test : Located → Bool) (walk : s.walkQueue test = some l) : s.locateId l.id = some l := by
    obtain ⟨x, -, located⟩ := List.mem_filterMap.mp (List.mem_of_find?_eq_some walk)
    obtain ⟨-, -, name, -⟩ := State.locateId_eq_some located
    rwa [name]
  unfold State.nextClaim at next
  split at next
  next walk =>
    obtain rfl := Option.some.inj next
    exact walked _ walk
  next => exact walked _ next

/-- What a claim leaves: the board CLAIMED, out of the queue and named by the claim (R46, R48). -/
theorem State.claimBoard_claims {s : State} {l : Located} (found : s.locateId l.id = some l) :
    Claimed s (commit s (s.claimBoard l)) l := by
  have moved : s.BoardChanged (s.claimBoard l) l.record l.index fun board => { board with state := .claimed } :=
    (((State.BoardChanged.refl s l.record l.index).same (u := s.unqueue l.id) rfl).moveBoard .claimed).same rfl
  obtain ⟨board, elsewhere⟩ := (moved.commit s).boards
    (State.boardAt_of_locate (State.locate_of_id found))
  have gripper : (s.claimBoard l).gripper = { s.gripper with
      claim := some l.id, queue := s.gripper.queue.filter (· != l.id) } := by
    simp [State.claimBoard, State.unqueue]
  have session : (s.claimBoard l).magazine.session = s.magazine.session := by simp
  have notReady : (s.claimBoard l).destinationReady = false := by
    obtain ⟨p, after, -, -⟩ := moved.locateId found rfl rfl
    refine State.destinationReady_of_state (board := { l.board with state := .claimed }) ?_ (by simp)
    simp [State.claimed, gripper, after]
  exact ⟨board, elsewhere, (commit_gripper session (.inr notReady)).trans gripper, by simp,
    (commit_magazine session).trans (by simp), by simp, by simp, by simp, by simp⟩

theorem claimRequestsTakeTheirBoard : Says.ClaimRequestsTakeTheirBoard := by
  intro s p
  refine ⟨fun reaches => ⟨fun busy => refuses_of_handler reaches rfl (if_pos busy), fun free =>
      ⟨fun none_ => answers_of_handler reaches rfl ?waits, fun l next => ⟨commit s (s.claimBoard l),
        answers_of_handler reaches rfl ?takes, State.claimBoard_claims (State.nextClaim_located next)⟩⟩⟩,
    fun reaches serial b => ⟨fun none_ => refuses_of_handler reaches rfl ?missing, fun l found =>
      ⟨fun busy => refuses_of_handler reaches rfl ?busy, fun free =>
        ⟨fun other => refuses_of_handler reaches rfl ?other, fun hanging clear => ⟨commit s (s.claimBoard l),
          answers_of_handler reaches rfl ?claims, State.claimBoard_claims ?found⟩⟩⟩⟩⟩
  case waits =>
    simp only [free, none_, Option.isSome_none, Bool.false_eq_true, if_false]
    rfl
  case takes =>
    simp only [free, next, Option.isSome_none, Bool.false_eq_true, if_false]
    rfl
  case missing => simp only [none_]
  case busy => simp only [found, busy, if_true]
  case other =>
    have refused : l.board.state ≠ .hanging ∨ l.board.flagged = true := by rwa [flagged_iff]
    simp only [found, free, Option.isSome_none, Bool.false_eq_true, if_false, if_pos refused]
  case claims =>
    have taken : ¬ (l.board.state ≠ .hanging ∨ l.board.flagged = true) := by simp [hanging, flagged_iff, clear]
    simp only [found, free, Option.isSome_none, Bool.false_eq_true, if_false, if_neg taken]
    rfl
  case found =>
    obtain ⟨-, -, name, -⟩ := State.locateId_eq_some found
    rwa [name]

/-- Settles O36, by the walk over the queue and the checks of the two requests. -/
theorem claimsTakeAHangingBoard : Obligations.ClaimsTakeAHangingBoard :=
  ⟨claimNextPrefersTheServedPanel, claimRequestsTakeTheirBoard⟩

end Sys2Proof.Machine

/-! PROOFS. DESTINATION, and the run of slots it allocates (R54 to R57, R101). -/

namespace Sys2Proof.Machine

open Sys2Proof

/-! ### The run of slots (R101) -/

theorem nth1_add_one {α : Type} (l : List α) (n : Nat) : nth1 l (n + 1) = l[n]? := by simp [nth1]

theorem nth1_isSome {α : Type} {l : List α} {n : Nat} {x : α} (found : nth1 l n = some x) :
    1 ≤ n ∧ n ≤ l.length := by
  unfold nth1 at found
  split at found
  next => cases found
  next some_ =>
    have within := (List.getElem?_eq_some_iff.mp found).1
    omega

theorem Session.runEmpty_iff (m : Session) (k h : Nat) :
    m.runEmpty k h = true ↔ ∀ d, d < h → ∃ x, nth1 m.slots (k + d) = some x ∧ x.state = .empty := by
  simp [Session.runEmpty, Option.any_eq_true]

/-- A run of EMPTY slots lies in the map. -/
theorem Session.runEmpty_within {m : Session} {k h : Nat} (height : 1 ≤ h) (run : m.runEmpty k h = true) :
    k + h ≤ m.slots.length + 1 := by
  obtain ⟨x, found, -⟩ := (m.runEmpty_iff k h).mp run (h - 1) (by omega)
  have within := (nth1_isSome found).2
  omega

theorem Session.findRun_eq_some {m : Session} {h k : Nat} (height : 1 ≤ h) (length : m.slots.length = m.type.slotCount) :
    m.findRun h = some k ↔ 1 ≤ k ∧ m.runEmpty k h = true ∧ ∀ j, 1 ≤ j → j < k → ¬ m.runEmpty j h = true := by
  simp only [Session.findRun, List.find?_range'_eq_some, List.mem_range'_1, Bool.not_eq_true', Bool.not_eq_true]
  constructor
  · rintro ⟨run, ⟨low, -⟩, first⟩
    exact ⟨low, run, first⟩
  · rintro ⟨low, run, first⟩
    have within := Session.runEmpty_within height run
    exact ⟨run, ⟨low, by omega⟩, first⟩

theorem Session.findRun_eq_none {m : Session} {h : Nat} (height : 1 ≤ h) (length : m.slots.length = m.type.slotCount) :
    m.findRun h = none ↔ ∀ j, 1 ≤ j → ¬ m.runEmpty j h = true := by
  simp only [Session.findRun, List.find?_range'_eq_none, Bool.not_eq_true', Bool.not_eq_true]
  constructor
  · intro all j low
    by_contra run
    have within := Session.runEmpty_within height (by simpa using run)
    exact run (all j low (by omega))
  · exact fun all j low _ => all j low

theorem allocationTakesTheLowestRun : Says.AllocationTakesTheLowestRun := by
  intro s h k height
  refine ⟨fun none_ => by simp [State.runFor, none_], fun m loaded length => ?_⟩
  intro free
  refine ⟨fun condemned => by simp [State.runFor, loaded, condemned], fun sound => ?_⟩
  have run : s.runFor h = m.findRun h := by simp [State.runFor, loaded, sound]
  have same (j : Nat) : free j ↔ m.runEmpty j h = true := (m.runEmpty_iff j h).symm
  simp only [run, Session.findRun_eq_some height length, Session.findRun_eq_none height length, same]
  exact ⟨trivial, trivial⟩

/-! ### A board bound -/

/-- The board with its destination. -/
def Board.boundTo (board : Board) (d : Destination) : Board := { board with state := .bound, destination := some d }

theorem State.BoardChanged.bindBoard {s t : State} {l : Located} {f : Board → Board}
    (h : s.BoardChanged t l.record l.index f) (d : Destination) :
    s.BoardChanged (t.bindBoard l d) l.record l.index ((·.boundTo d) ∘ f) :=
  ((h.setDestination (some d)).moveBoard .bound).same rfl

theorem State.bindBoard_gripper (s : State) (l : Located) (d : Destination) :
    (s.bindBoard l d).gripper = { s.gripper with wait := none } := by
  simp [State.bindBoard, State.setWait]

/-! ### The end of a request that must wait -/

/-- With the slots as they were the full mark stays as the change set it. -/
theorem State.refreshFull_of_slots {before after : State}
    (slots : after.magazine.session.map (·.slots) = before.magazine.session.map (·.slots)) :
    before.refreshFull after = after := by
  unfold State.refreshFull
  split
  next m m' loadedBefore loadedAfter =>
    have same : m'.slots = m.slots := by simpa [loadedBefore, loadedAfter] using slots
    simp [same]
  all_goals rfl

/-- A change that leaves the slots, after which no DESTINATION could bind: magazine map and tracker stay (R57, R101). -/
theorem commit_wait {before after : State}
    (slots : after.magazine.session.map (·.slots) = before.magazine.session.map (·.slots))
    (notReady : after.destinationReady = false) :
    (commit before after).magazine = after.magazine ∧ (commit before after).gripper = after.gripper := by
  have quiet : before.refreshWait after = after := by
    unfold State.refreshWait
    refine if_neg ?_
    rintro ⟨-, -, ready⟩
    simp [notReady] at ready
  simp [commit, State.refreshFull_of_slots slots, quiet]

/-- No DESTINATION would bind a claimed board for which there is no place. -/
theorem State.destinationReady_false {s : State} {l : Located} (claimed : s.claimed = some l)
    (bin : l.board.toBin = true → s.magazine.binCapacity ≤ s.magazine.binCount)
    (slot : l.board.toBin = false → s.runFor l.board.height = none) : s.destinationReady = false := by
  cases toBin : l.board.toBin with
  | true => simp [State.destinationReady, claimed, toBin, bin toBin]
  | false => simp [State.destinationReady, claimed, toBin, slot toBin]

/-- An allocation that found no run: the full mark of a loaded magazine, and UNLOAD_WANTED (R101). -/
theorem State.noRun_session (s : State) (h : Nat) :
    (s.noRun h).magazine = { s.magazine with session := s.magazine.session.map fun m =>
        { m with full := some (if m.full = some 1 then 1 else h) } }
      ∧ (s.noRun h).isPending .magazine .unloadWanted = true := by
  cases loaded : s.magazine.session with
  | none =>
      simp only [State.noRun, loaded]
      refine ⟨?_, State.isPending_post _ (by decide)⟩
      rw [Option.map_none, ← loaded]
      simp
  | some m =>
      simp only [State.noRun, loaded]
      refine ⟨?_, State.isPending_post _ (by decide)⟩
      simp [State.markFull, State.modifySession, loaded]

theorem State.runFor_noRun (s : State) (h n : Nat) : (s.noRun h).runFor n = s.runFor n := by
  simp only [State.runFor, (s.noRun_session h).1]
  cases s.magazine.session <;> rfl

theorem destinationAnswers : Says.DestinationAnswers := by
  intro s p serial b l reaches found claim
  have board := State.boardAt_of_locate (State.locate_of_id found)
  have claimed : s.claimed = some l := by
    obtain ⟨-, -, name, -⟩ := State.locateId_eq_some found
    rw [State.claimed, claim, Option.bind_some, name]
    exact found
  intro i bin
  have handled {t : State} {v : Verdict} {body : List Byte}
      (rest : (match l.board.state, l.board.destination with
        | .loose, _ => if l.board.toBin then s.bindToBin l else s.bindToSlot l
        | .bound, some d => respond s (l.board.destinationBody d)
        | _, _ => refuse s .wrongState) = (t, { verdict := v, body := body })) : Answers i s t p 60 v body :=
    answers_of_handler reaches rfl ((State.onClaim_claimed found claim _).trans rest)
  refine ⟨fun notLoose notBound => handled ?other, fun bound reject => handled ?reject,
    fun k bound slot => handled ?slot, fun loose toBin => ⟨fun room => ?room, fun full => ?full⟩,
    fun loose toSlot => ⟨fun k run => ?run, fun none_ => ?noRun⟩⟩
  case other =>
    split
    next loose => exact absurd loose notLoose
    next bound _ => exact absurd bound notBound
    next => rfl
  case reject => simp only [bound, reject]; rfl
  case slot => simp only [bound, slot]; rfl
  case room =>
    have bound := ((State.BoardChanged.refl s l.record l.index).bindBoard (l := l) .reject).commit s
    obtain ⟨now, elsewhere⟩ := bound.boards board
    refine ⟨_, handled ?_, now, elsewhere, ?_, (commit_magazine (by simp)).trans (by simp), by simp, by simp⟩
    · simp only [loose]
      exact (if_pos toBin).trans (if_pos room)
    · rw [commit_gripper_noWait (by rw [State.bindBoard_gripper]), State.bindBoard_gripper]
  case full =>
    let u := s.setWait (some .binFull)
    have notReady : u.destinationReady = false :=
      State.destinationReady_false (s := u) claimed (fun _ => full) fun toSlot =>
        (Bool.eq_false_iff.mp toSlot toBin).elim
    obtain ⟨magazine, gripper⟩ := commit_wait (before := s) (after := u) rfl notReady
    refine ⟨_, handled ?_, gripper, by simp [u, State.setWait], magazine, by simp [u, State.setWait],
      by simp [u, State.setWait]⟩
    simp only [loose]
    exact (if_pos toBin).trans (if_neg (Nat.not_lt.mpr full))
  case run =>
    let v := s.modifySession fun m => m.setRun k l.board.height (.reserved l.id)
    have started : s.BoardChanged v l.record l.index id := (State.BoardChanged.refl s l.record l.index).same rfl
    obtain ⟨now, elsewhere⟩ := ((started.bindBoard (.slot k)).commit s).boards board
    refine ⟨_, handled ?_, now, elsewhere, ?_, ?_, by simp [v], by simp [v]⟩
    · simp only [loose]
      refine (if_neg (Bool.eq_false_iff.mp toSlot)).trans ?_
      simp only [State.bindToSlot, run]
      rfl
    · rw [commit_gripper_noWait (by rw [State.bindBoard_gripper]), State.bindBoard_gripper]
      rfl
    · rw [commit_session_map _ _ _ fun _ _ => rfl]
      simp [v, State.modifySession, Function.comp_def]
  case noRun =>
    let u := (s.noRun l.board.height).setWait (some .noRoom)
    obtain ⟨marked, told⟩ := s.noRun_session l.board.height
    have same : u.magazine = _ := marked
    have claimed' : u.claimed = some l := (State.claimed_of (by simp [u, State.setWait]) (by simp [u, State.setWait])).trans claimed
    have notReady : u.destinationReady = false :=
      State.destinationReady_false claimed' (fun toBin => (Bool.eq_false_iff.mp toSlot toBin).elim) fun _ =>
        (s.runFor_noRun l.board.height l.board.height).trans none_
    obtain ⟨magazine, gripper⟩ := commit_wait (before := s) (after := u)
      (by rw [same]; simp [Function.comp_def]) notReady
    refine ⟨_, handled ?_, gripper.trans (by simp [u, State.setWait]), by simp [u, State.setWait], fun m loaded => ?_,
      fun none_ => ?_, commit_keepsPending _ _ _ _ told, by simp [u, State.setWait], by simp [u, State.setWait]⟩
    · simp only [loose]
      refine (if_neg (Bool.eq_false_iff.mp toSlot)).trans ?_
      simp only [State.bindToSlot, none_]
      rfl
    · rw [magazine, same, loaded]
      rfl
    · rw [magazine, same, none_, Option.map_none, ← none_]

/-- Settles O37, by the state and the flags of the claimed board, and by the search for a run. -/
theorem destinationBindsTheLooseBoard : Obligations.DestinationBindsTheLooseBoard :=
  ⟨destinationAnswers, allocationTakesTheLowestRun⟩

end Sys2Proof.Machine

/-! PROOFS. A board in doubt, a board stowed, and the verification of a seat (R103, R104, R141, R142). -/

namespace Sys2Proof.Machine

open Sys2Proof

/-! ### A board in doubt -/

/-- The slots of a session with the run of a board in doubt (R103). -/
def Session.doubted (m : Session) (id : BoardId) : Session := m.restate (.reserved id) (.doubt id)

theorem Session.restate_slots (m : Session) (old new : SlotState) :
    (m.restate old new).slots = m.slots.map fun x => if x.state = old then { x with state := new } else x := rfl

/-- The part with a board's run in doubt and its review reason re-evaluated, before the raise. -/
def State.doubting (s : State) (l : Located) : State :=
  (s.modifySession (·.doubted l.id)).review l.record l.index

theorem State.doubt_eq (s : State) (l : Located) :
    s.doubt l = ((s.doubting l).post .cell .reviewNeeded).raise .seatDoubt := rfl

theorem State.doubting_session {s : State} {m : Session} (l : Located) (loaded : s.magazine.session = some m) :
    (s.doubting l).magazine.session = some (m.doubted l.id) := by
  simp [State.doubting, State.modifySession, loaded]

/-- A VERIFYING board whose run has gone to doubt is flagged (R19). -/
theorem State.reviewOf_doubted {s : State} {l : Located} {m : Session}
    (loaded : s.magazine.session = some (m.doubted l.id)) (verifying : l.board.state = .verifying)
    (reserved : ∃ x ∈ m.slots, x.state = .reserved l.id) : s.reviewOf l ≠ none := by
  obtain ⟨x, inMap, state⟩ := reserved
  have doubt : ((m.doubted l.id).slots.any fun x => x.state == .doubt l.id) = true := by
    refine List.any_eq_true.mpr ⟨{ x with state := .doubt l.id }, List.mem_map.mpr ⟨x, inMap, if_pos state⟩, ?_⟩
    simp
  have open_ : s.seatDoubtOpen l = true := by simp [State.seatDoubtOpen, verifying, loaded, doubt]
  unfold State.reviewOf
  split
  · simp
  · simp [open_]

/-- A board that is found under its place, in the form it has there, goes to doubt. -/
theorem State.doubt_inDoubt {v : State} {l : Located} {q : Panel} {board : Board} {m : Session}
    (found : v.locate l.record l.index = some { l with panel := q, board := board })
    (serial : q.serial = l.panel.serial) (loaded : v.magazine.session = some m) :
    InDoubt v (v.doubt l) { l with board := board } m := by
  have slots := v.doubting_session l loaded
  have name : ({ l with panel := q, board := board } : Located).id = l.id := by simp [Located.id, serial]
  have changed := ((State.BoardChanged.refl v l.record l.index).same
    (u := v.modifySession (·.doubted l.id)) rfl).review (l := { l with panel := q, board := board }) found
  obtain ⟨now, elsewhere⟩ := (changed.same (u := v.doubt l) (by simp [State.doubt_eq, State.doubting])).boards
    (board := board) (by simp [State.boardAt, found])
  let told := (v.doubting l).post .cell .reviewNeeded
  have table : told.fault .seatDoubt = v.fault .seatDoubt :=
    State.fault_of_faults (by simp [told, State.doubting]) _
  refine ⟨⟨m.doubted l.id, ?_, rfl, rfl, rfl⟩, ⟨_, now, fun verifying reserved => ?_⟩, elsewhere, ?_, fun on => ?_⟩
  · rw [State.doubt_eq]
    simpa using slots
  · refine State.reviewOf_doubted (m := m) ?_ verifying (by rw [name]; exact reserved)
    rw [name]
    simp [State.modifySession, loaded]
  · exact ((State.Posts.refl _).raise _).posted (by decide)
  · obtain ⟨entry, last⟩ := told.raise_enabled (k := .seatDoubt) (by rw [table]; exact on)
    refine ⟨?_, last⟩
    rw [State.doubt_eq, entry, table]
    rfl

theorem InDoubt.of_start {s v t : State} {l : Located} {m : Session} (doubt : InDoubt v t l m)
    (elsewhere : BoardsElsewhere s v l.record l.index) (fault : v.fault .seatDoubt = s.fault .seatDoubt) :
    InDoubt s t l m := by
  obtain ⟨session, board, others, told, counted⟩ := doubt
  exact ⟨session, board, fun j c other => (others j c other).trans (elsewhere j c other), told, by rwa [fault] at counted⟩

theorem InDoubt.commit {s t : State} {l : Located} {m : Session} (doubt : InDoubt s t l m) (before : State) :
    InDoubt s (commit before t) l m := by
  obtain ⟨⟨u, loaded, manifest, stow, slots⟩, ⟨review, board, flagged⟩, elsewhere, told, counted⟩ := doubt
  obtain ⟨full, magazine⟩ := commit_session before t
  have panels : (Machine.commit before t).panels = t.panels := by simp
  refine ⟨⟨{ u with full := full u }, by rw [magazine, loaded]; rfl, manifest, stow, slots⟩,
    ⟨review, (State.boardAt_of_panels panels _ _).trans board, flagged⟩,
    fun j c other => (State.boardAt_of_panels panels j c).trans (elsewhere j c other),
    commit_keepsPending _ _ _ _ told, fun on => ?_⟩
  rw [State.fault_of_faults (s := t) (by simp)]
  simpa using counted on

/-! ### A board stowed -/

/-- The slots of a session with a board stowed at slot j (R103). -/
theorem Session.fill_eq (m : Session) (id : BoardId) (j h : Nat) :
    (m.fill id j h).manifest = m.manifest ++ [{ stow := m.stow, first := j, height := h, board := id }]
      ∧ (m.fill id j h).stow = m.stow + 1
      ∧ (m.fill id j h).slots = ((m.setRun j h (.filled id)).setFailures j 0).slots
      ∧ (m.fill id j h).tag = m.tag ∧ (m.fill id j h).type = m.type ∧ (m.fill id j h).condemned = m.condemned :=
  ⟨rfl, rfl, rfl, rfl, rfl, rfl⟩

/-- A board that is not VERIFYING carries no seat doubt (R19). -/
theorem State.reviewOf_ne_seatDoubt {s : State} {l : Located} (state : l.board.state ≠ .verifying) :
    s.reviewOf l ≠ some .seatDoubt := by
  have closed : s.seatDoubtOpen l = false := by simp [State.seatDoubtOpen, state]
  unfold State.reviewOf
  split <;> simp [closed]

/-- What a stowing leaves of its board: STOWED, with a review reason that is no seat doubt. -/
theorem State.stow_board {v : State} {l : Located} {q : Panel} {board : Board} (j : Nat)
    (found : v.locate l.record l.index = some { l with panel := q, board := board }) :
    ∃ review, review ≠ some .seatDoubt
      ∧ v.BoardChanged (v.stow l j) l.record l.index fun board => { board with state := .stowed, review := review } := by
  have moved := ((State.BoardChanged.refl v l.record l.index).same
    (u := v.modifySession fun m => m.fill l.id j l.board.height) rfl).moveBoard .stowed
  obtain ⟨p, after, -, -⟩ := moved.locate found
  exact ⟨_, State.reviewOf_ne_seatDoubt (by simp), moved.review after⟩

theorem State.stow_session {v : State} {m : Session} (l : Located) (j : Nat) (loaded : v.magazine.session = some m) :
    (v.stow l j).magazine.session = some (m.fill l.id j l.board.height) := by
  simp [State.stow, State.modifySession, loaded]

theorem State.stow_stowedAt {v : State} {l : Located} {q : Panel} {board : Board} {m : Session} (j : Nat)
    (found : v.locate l.record l.index = some { l with panel := q, board := board })
    (height : board.height = l.board.height) (loaded : v.magazine.session = some m) :
    StowedAt v (v.stow l j) { l with board := board } m j := by
  obtain ⟨review, clear, changed⟩ := v.stow_board j found
  obtain ⟨now, elsewhere⟩ := changed.boards (board := board) (by simp [State.boardAt, found])
  refine ⟨⟨_, v.stow_session l j loaded, ?_⟩, ⟨review, now, clear⟩, elsewhere⟩
  rw [show ({ l with board := board } : Located).board.height = l.board.height from height]
  exact Session.fill_eq _ _ _ _

/-- A board stowed at another slot than the one reserved for it (R102, R142). -/
theorem State.stow_stowedElsewhere {v : State} {l : Located} {q : Panel} {board : Board} {m : Session} (j : Nat)
    (found : v.locate l.record l.index = some { l with panel := q, board := board })
    (height : board.height = l.board.height) (loaded : v.magazine.session = some m) :
    StowedElsewhere v (((v.release l).stow l j).raise .seatMismatch) { l with board := board } m j := by
  have released : v.BoardChanged (v.release l) l.record l.index fun board => { board with destination := none } :=
    ((State.BoardChanged.refl v l.record l.index).same
      (u := v.modifySession fun m => m.restate (.reserved l.id) .empty) rfl).setDestination none
  obtain ⟨p, after, -, -⟩ := released.locate found
  obtain ⟨review, -, changed⟩ := (v.release l).stow_board j (q := p) (board := { board with destination := none }) after
  obtain ⟨now, elsewhere⟩ := ((released.trans changed).same
    (u := ((v.release l).stow l j).raise .seatMismatch) (by simp)).boards (board := board) (by simp [State.boardAt, found])
  have emptied : (v.release l).magazine.session = some (m.restate (.reserved l.id) .empty) := by
    simp [State.release, State.modifySession, loaded]
  obtain ⟨manifest, -, slots, -⟩ := (m.restate (.reserved l.id) .empty).fill_eq l.id j l.board.height
  have table : ((v.release l).stow l j).fault .seatMismatch = v.fault .seatMismatch :=
    State.fault_of_faults (by simp) _
  refine ⟨⟨(m.restate (.reserved l.id) .empty).fill l.id j l.board.height, ?_, ?_⟩, ⟨review, now⟩, elsewhere, fun on => ?_⟩
  · simpa using (v.release l).stow_session l j emptied
  · rw [show ({ l with board := board } : Located).board.height = l.board.height from height]
    exact ⟨manifest, slots⟩
  · obtain ⟨entry, -⟩ := ((v.release l).stow l j).raise_enabled (k := .seatMismatch) (by rw [table]; exact on)
    rw [entry, table]
    rfl

theorem StowedAt.of_start {s v t : State} {l : Located} {m : Session} {j : Nat} (stowed : StowedAt v t l m j)
    (elsewhere : BoardsElsewhere s v l.record l.index) : StowedAt s t l m j := by
  obtain ⟨session, board, others⟩ := stowed
  exact ⟨session, board, fun j c other => (others j c other).trans (elsewhere j c other)⟩

theorem StowedElsewhere.of_start {s v t : State} {l : Located} {m : Session} {j : Nat}
    (stowed : StowedElsewhere v t l m j) (elsewhere : BoardsElsewhere s v l.record l.index)
    (fault : v.fault .seatMismatch = s.fault .seatMismatch) : StowedElsewhere s t l m j := by
  obtain ⟨session, board, others, counted⟩ := stowed
  exact ⟨session, board, fun j c other => (others j c other).trans (elsewhere j c other), by rwa [fault] at counted⟩

theorem StowedAt.commit {s t : State} {l : Located} {m : Session} {j : Nat} (stowed : StowedAt s t l m j)
    (before : State) : StowedAt s (commit before t) l m j := by
  obtain ⟨⟨u, loaded, rest⟩, ⟨review, board, clear⟩, elsewhere⟩ := stowed
  obtain ⟨full, magazine⟩ := commit_session before t
  have panels : (Machine.commit before t).panels = t.panels := by simp
  exact ⟨⟨{ u with full := full u }, by rw [magazine, loaded]; rfl, rest⟩,
    ⟨review, (State.boardAt_of_panels panels _ _).trans board, clear⟩,
    fun j c other => (State.boardAt_of_panels panels j c).trans (elsewhere j c other)⟩

theorem StowedElsewhere.commit {s t : State} {l : Located} {m : Session} {j : Nat} (stowed : StowedElsewhere s t l m j)
    (before : State) : StowedElsewhere s (commit before t) l m j := by
  obtain ⟨⟨u, loaded, rest⟩, ⟨review, board⟩, elsewhere, counted⟩ := stowed
  obtain ⟨full, magazine⟩ := commit_session before t
  have panels : (Machine.commit before t).panels = t.panels := by simp
  refine ⟨⟨{ u with full := full u }, by rw [magazine, loaded]; rfl, rest⟩,
    ⟨review, (State.boardAt_of_panels panels _ _).trans board⟩,
    fun j c other => (State.boardAt_of_panels panels j c).trans (elsewhere j c other), fun on => ?_⟩
  rw [State.fault_of_faults (s := t) (by simp)]
  exact counted on

/-! ### The verification (R142) -/

/-- The four findings of a verification, for a board that is found under its place in the form it has there. -/
theorem State.verify_judges {v : State} {l : Located} {q : Panel} {board : Board} {m : Session} (k : Nat) (c : Word24)
    (found : v.locate l.record l.index = some { l with panel := q, board := board })
    (serial : q.serial = l.panel.serial) (height : board.height = l.board.height)
    (loaded : v.magazine.session = some m) :
    let t := v.verify l k l.board.height c
    let there : Located := { l with board := board }
    (v.elevator.homed = false ∨ m.type.nearest c = .between → InDoubt v t there m)
    ∧ (v.elevator.homed = true → m.type.nearest c = .slot k → StowedAt v t there m k)
    ∧ (∀ j, v.elevator.homed = true → m.type.nearest c = .slot j → j ≠ k →
        (m.runEmpty j l.board.height = false → InDoubt v t there m)
        ∧ (m.runEmpty j l.board.height = true → StowedElsewhere v t there m j)) := by
  have doubt := State.doubt_inDoubt found serial loaded
  have near : v.nearest c = m.type.nearest c := by simp [State.nearest, loaded]
  refine ⟨fun lost => ?_, fun homed at_ => ?_, fun j homed at_ other => ⟨fun taken => ?_, fun empty => ?_⟩⟩
  · have eq : v.verify l k l.board.height c = v.doubt l := by
      rcases lost with lost | between
      · simp [State.verify, lost]
      · simp [State.verify, near, between]
    rw [eq]
    exact doubt
  · have eq : v.verify l k l.board.height c = v.stow l k := by simp [State.verify, homed, near, at_]
    rw [eq]
    exact v.stow_stowedAt k found height loaded
  · have eq : v.verify l k l.board.height c = v.doubt l := by
      simp [State.verify, homed, near, at_, other, loaded, taken]
    rw [eq]
    exact doubt
  · have eq : v.verify l k l.board.height c = ((v.release l).stow l j).raise .seatMismatch := by
      simp [State.verify, homed, near, at_, other, loaded, empty]
    rw [eq]
    exact v.stow_stowedElsewhere j found height loaded

theorem verificationJudgesTheSeat : Says.VerificationJudgesTheSeat :=
  fun _ _ k c _ loaded found => State.verify_judges k c found rfl rfl loaded

end Sys2Proof.Machine

/-! PROOFS. The end of a settle wait, the illegal transition and the seat sensor (R117, R126, R127, R136, R138, R141). -/

namespace Sys2Proof.Machine

open Sys2Proof

/-! ### The settle wait -/

theorem State.locateId_of_panels {s t : State} (panels : t.panels = s.panels) (id : BoardId) :
    t.locateId id = s.locateId id := by
  simp [State.locateId, State.recordOfSerial, State.findRecord, State.locate, panels]

/-- The part with its settle wait over. -/
def State.waitEnded (s : State) : State := { s with insertion := { s.insertion with wait := none } }

theorem State.endWait_none {s : State} (none_ : s.insertion.wait = none) (judge : State → Located → SettleWait → State) :
    s.endWait judge = s := by
  simp [State.endWait, none_]

theorem State.endWait_some {s : State} {w : SettleWait} {l : Located} (waits : s.insertion.wait = some w)
    (found : s.locateId w.board = some l) (judge : State → Located → SettleWait → State) :
    s.endWait judge = judge s.waitEnded l w := by
  simp only [State.endWait, waits, found]
  rfl

/-- The wait is over, and the rest is what the judgement leaves. -/
theorem State.endWait_cases (s : State) (judge : State → Located → SettleWait → State) :
    s.endWait judge = s.waitEnded ∨ ∃ l w, s.endWait judge = judge s.waitEnded l w := by
  cases waits : s.insertion.wait with
  | none =>
      refine .inl ((State.endWait_none waits judge).trans ?_)
      exact congrArg (fun x => ({ s with insertion := { s.insertion with wait := x } } : State)) waits
  | some w =>
      simp only [State.endWait, waits]
      cases s.locateId w.board with
      | none => exact .inl rfl
      | some l => exact .inr ⟨l, w, rfl⟩

/-- A settle wait that ends in doubt leaves the elevator, the lines and the rest of insertion control. -/
theorem State.endWait_doubt (s : State) :
    let t := s.endWait fun t l _ => t.doubt l
    t.elevator = s.elevator ∧ t.lines = s.lines ∧ t.insertion = { s.insertion with wait := none }
      ∧ ∀ k, k ≠ .seatDoubt → t.fault k = s.fault k := by
  intro t
  rcases s.endWait_cases (fun t l _ => t.doubt l) with ends | ⟨l, w, ends⟩
  · have eq : t = s.waitEnded := ends
    rw [eq]
    exact ⟨rfl, rfl, rfl, fun _ _ => rfl⟩
  · have eq : t = s.waitEnded.doubt l := ends
    rw [eq]
    refine ⟨by simp [State.waitEnded], by simp [State.waitEnded], by simp [State.waitEnded], fun k other => ?_⟩
    rw [State.doubt_eq, State.raise_fault_ne _ other]
    exact State.fault_of_faults (by simp [State.doubting, State.waitEnded]) _

/-- A settle wait that ends in doubt, with its board found and a magazine loaded. -/
theorem State.endWait_inDoubt {s : State} {w : SettleWait} {l : Located} {m : Session}
    (waits : s.insertion.wait = some w) (found : s.locateId w.board = some l) (loaded : s.magazine.session = some m) :
    InDoubt s (s.endWait fun t l _ => t.doubt l) l m := by
  rw [State.endWait_some waits found]
  exact (State.doubt_inDoubt (v := s.waitEnded) (State.locate_of_id found) rfl loaded).of_start
    (fun _ _ _ => rfl) rfl

/-! ### The illegal transition -/

/-- The part after an illegal transition, before the confirmation is withdrawn (R117). -/
def State.miscounted (s : State) (a b : Bool) : State :=
  { s.setEncoder a b with elevator :=
    { s.elevator with illegalCount := min 255 (s.elevator.illegalCount + 1), homed := false } }

/-- The encoder error of an illegal transition: raised unless it is active (R117). -/
def State.encoderError (s : State) : State :=
  if (s.fault .encoderError).active then s else (s.raise .encoderError).post .magazine .homingNeeded

theorem State.illegal_eq (s : State) (a b : Bool) :
    s.illegal a b = (s.miscounted a b).encoderError.withdraw.disturb.endWait fun t l _ => t.doubt l := rfl

theorem State.encoderError_frame (s : State) :
    s.encoderError.panels = s.panels ∧ s.encoderError.magazine = s.magazine ∧ s.encoderError.elevator = s.elevator
      ∧ s.encoderError.insertion = s.insertion ∧ s.encoderError.lines = s.lines := by
  unfold State.encoderError
  split <;> simp

theorem State.encoderError_faults (s : State) :
    (s.encoderError.fault .encoderError).active = true
      ∧ ((s.fault .encoderError).active = false → s.encoderError.isPending .magazine .homingNeeded = true
        ∧ ((s.fault .encoderError).enabled = true →
            (s.encoderError.fault .encoderError).count = min 255 ((s.fault .encoderError).count + 1)))
      ∧ ((s.fault .encoderError).active = true →
          (s.encoderError.fault .encoderError).count = (s.fault .encoderError).count)
      ∧ ∀ k, k ≠ .encoderError → s.encoderError.fault k = s.fault k := by
  cases active : (s.fault .encoderError).active with
  | true =>
      have eq : s.encoderError = s := if_pos active
      rw [eq]
      exact ⟨active, fun quiet => absurd quiet (by decide), fun _ => rfl, fun _ _ => rfl⟩
  | false =>
      have eq : s.encoderError = (s.raise .encoderError).post .magazine .homingNeeded := if_neg (by simp [active])
      have table (k : FaultKind) : s.encoderError.fault k = (s.raise .encoderError).fault k := by
        rw [eq]
        exact State.fault_of_faults (by simp) k
      refine ⟨by rw [table]; exact State.raise_active _ rfl, fun _ => ⟨?_, fun on => ?_⟩,
        fun yes => absurd yes (by decide), fun k other => by rw [table, State.raise_fault_ne _ other]⟩
      · rw [eq]
        exact State.isPending_post _ (by decide)
      · rw [table, (s.raise_enabled on).1]
        rfl

/-- Settles O51, by the error, the confirmation with the insertion, and the settle wait. -/
theorem illegalTransitionsBreakTheCount : Obligations.IllegalTransitionsBreakTheCount := by
  intro s up a b
  let e := (s.miscounted a b).encoderError
  let v := e.withdraw.disturb
  obtain ⟨panels, magazine, elevator, insertion, lines⟩ := (s.miscounted a b).encoderError_frame
  obtain ⟨active, first, again, others⟩ := (s.miscounted a b).encoderError_faults
  obtain ⟨keepsElevator, keepsLines, ended, faults⟩ := v.endWait_doubt
  have table (k : FaultKind) : v.fault k = e.fault k := State.fault_of_faults (by simp [v]) k
  have after (k : FaultKind) (other : k ≠ .seatDoubt) : (commit s (s.illegal a b)).fault k = e.fault k := by
    rw [State.fault_of_faults (s := s.illegal a b) (by simp), s.illegal_eq]
    exact (faults k other).trans (table k)
  have vPanels : v.panels = s.panels := Eq.trans (by simp [v, e]) panels
  have vMagazine : v.magazine = s.magazine := Eq.trans (by simp [v, e]) magazine
  have vInsertion : v.insertion = { s.insertion with
      confirmation := none, insertion := s.insertion.insertion.map fun o => { o with disturbed := true } } := by
    have kept : e.insertion = s.insertion := insertion
    simp [v, State.disturb_insertion, State.withdraw_insertion, kept]
  have tInsertion : (commit s (s.illegal a b)).insertion = { v.insertion with wait := none } := by
    simpa [s.illegal_eq] using ended
  rw [vInsertion] at tInsertion
  refine ⟨commit s (s.illegal a b), ?taken, ?both, ?elevator, ?lines, ?active, fun quiet => ?raised, fun held => ?held,
    by rw [tInsertion], by rw [tInsertion], by rw [tInsertion], by rw [tInsertion], fun none_ => ?noWait,
    fun w l m waits found loaded => ?doubt⟩
  case taken => exact congrArg Host.Outcome.next (State.event_up _ _ up)
  case both => simp [exec, execEncoderTransition, State.event_up _ _ up, a, b]
  case elevator =>
    have same : (commit s (s.illegal a b)).elevator = (s.illegal a b).elevator := by simp
    have kept : v.elevator = e.elevator := by simp [v]
    exact same.trans (keepsElevator.trans (kept.trans elevator))
  case lines =>
    have same : (commit s (s.illegal a b)).lines = (s.illegal a b).lines := by simp
    have kept : v.lines = e.lines := by simp [v]
    exact same.trans (keepsLines.trans (kept.trans lines))
  case active => rw [after _ (by decide)]; exact active
  case raised =>
    obtain ⟨told, count⟩ := first quiet
    refine ⟨commit_keepsPending _ _ _ _ ?_, fun on => by rw [after _ (by decide)]; exact count on⟩
    rw [s.illegal_eq]
    exact ((((State.Posts.refl e).withdraw).disturb).endWait fun _ _ _ posts => posts.doubt _).keeps told
  case held => rw [after _ (by decide)]; exact again held
  case noWait =>
    have still : s.illegal a b = v := by
      rw [s.illegal_eq]
      exact State.endWait_none (by rw [vInsertion]; exact none_) _
    rw [still]
    exact ⟨by simpa using vPanels, (commit_magazine (by rw [vMagazine])).trans vMagazine⟩
  case doubt =>
    have doubt := State.endWait_inDoubt (s := v) (w := w) (m := m) (by rw [vInsertion]; exact waits)
      ((State.locateId_of_panels vPanels _).trans found) (by rw [vMagazine]; exact loaded)
    refine InDoubt.commit (doubt.of_start (fun j c _ => State.boardAt_of_panels vPanels j c) ?_) s
    rw [table]
    exact others _ (by decide)

/-! ### The seat sensor -/

/-- The part with a capture taken at the seat sensor's edge (R126). -/
def State.captured (s : State) : State :=
  { s with lines := { s.lines with seat := true }
           elevator := { s.elevator with captures := s.elevator.captures ++ [s.elevator.counter] } }

theorem exec_seatSensorEdge {s : State} (up : s.starting = false) (room : s.elevator.captures.length < 2) {c : Word24}
    {newer : List Word24} (captures : s.elevator.captures ++ [s.elevator.counter] = c :: newer) :
    exec .seatSensorEdge s
      = .next (commit s (s.captured.endWait fun u l w => u.verify l w.first w.height c)) := by
  have held : s.captured.elevator.captures = c :: newer := captures
  have edge : State.seatEdge { s with lines := { s.lines with seat := true } }
      = s.captured.endWait fun u l w => u.verify l w.first w.height c := by
    refine (if_pos room).trans ?_
    change (match s.captured.elevator.captures with
      | c :: _ => s.captured.endWait fun u l w => u.verify l w.first w.height c
      | [] => s.captured) = _
    rw [held]
  simp only [exec, execSeatSensorEdge, State.event_up _ _ up, edge]

theorem seatEdgesAndTheSettleWait : Says.SeatEdgesAndTheSettleWait := by
  intro s up
  have timeout : exec .seatSettleTimeout s = .next (commit s (s.endWait fun t l _ => t.doubt l)) :=
    congrArg Host.Outcome.next (State.event_up _ _ up)
  refine ⟨fun room none_ => ?idle, fun w l m waits found loaded => ⟨fun c newer captures room height =>
      ⟨commit s (s.captured.waitEnded.verify l w.first w.height c), ?verified⟩,
      ⟨_, timeout, ?_, ?_, (State.endWait_inDoubt waits found loaded).commit s⟩⟩, fun none_ => ?quiet, fun full => ?full⟩
  case idle =>
    obtain ⟨c, newer, captures⟩ := List.exists_cons_of_ne_nil
      (List.append_ne_nil_of_right_ne_nil s.elevator.captures (List.cons_ne_nil s.elevator.counter []))
    rw [exec_seatSensorEdge up room captures, State.endWait_none (s := s.captured) none_]
    exact congrArg Host.Outcome.next (commit_eq_storeBegin rfl rfl rfl rfl rfl rfl)
  case verified =>
    obtain ⟨doubt, at_, elsewhere⟩ := State.verify_judges (v := s.captured.waitEnded) (m := m) w.first c
      (State.locate_of_id found) rfl rfl loaded
    have held : s.captured.elevator.captures = c :: newer := captures
    rw [height]
    refine ⟨?_, ?_, by simp [State.waitEnded], by simp [State.waitEnded, State.captured], fun homed near => ?_,
      fun lost => ?_, fun j homed near other => ⟨fun taken => ?_, fun empty => ?_⟩⟩
    · rw [exec_seatSensorEdge up room captures, State.endWait_some (s := s.captured) waits
        ((State.locateId_of_panels rfl _).trans found), height]
    · have same : (commit s (s.captured.waitEnded.verify l w.first l.board.height c)).elevator = s.captured.elevator := by
        simp [State.waitEnded]
      rw [same, ← held]
      rfl
    · exact ((at_ homed near).of_start fun _ _ _ => rfl).commit s
    · exact ((doubt lost).of_start (fun _ _ _ => rfl) rfl).commit s
    · exact (((elsewhere j homed near other).1 taken).of_start (fun _ _ _ => rfl) rfl).commit s
    · exact (((elsewhere j homed near other).2 empty).of_start (fun _ _ _ => rfl) rfl).commit s
  case quiet => rw [timeout, State.endWait_none none_, commit_self]
  case full =>
    let v : State := { s with lines := { s.lines with seat := true } }
    have edge : v.seatEdge = v.raise .captureOverflow := if_neg (Nat.not_lt.mpr full)
    refine ⟨commit s (v.raise .captureOverflow), ?_, by simp [v], by simp [v], by simp [v],
      (commit_magazine (by simp [v])).trans (by simp [v]), fun on => ⟨?_, commit_keepsPending _ _ _ _ (v.raise_posts on)⟩⟩
    · rw [← edge]
      exact congrArg Host.Outcome.next (State.event_up _ _ up)
    · rw [State.fault_of_faults (s := v.raise .captureOverflow) (by simp), (v.raise_enabled on).1]
      rfl
  · simp [(State.endWait_doubt s).2.2.1]
  · simp [(State.endWait_doubt s).1]

/-- Settles O53, by the verification and the events that bring it about. -/
theorem seatIsVerified : Obligations.SeatIsVerified := ⟨verificationJudgesTheSeat, seatEdgesAndTheSettleWait⟩

end Sys2Proof.Machine

/-! PROOFS. A seat failure: the count, the slot retired, the magazine condemned (R107, R108). -/

namespace Sys2Proof.Machine

open Sys2Proof

/-! ### The slots after a change of the session -/

theorem Session.nth1_setRun (m : Session) (k h : Nat) (st : SlotState) (j : Nat) :
    nth1 (m.setRun k h st).slots j
      = (nth1 m.slots j).map fun x => if k ≤ j ∧ j < k + h then { x with state := st } else x := by
  rcases j with _ | j <;> simp [Session.setRun, nth1]

theorem Session.nth1_setFailures (m : Session) (k n j : Nat) :
    nth1 (m.setFailures k n).slots j
      = if j = k then (nth1 m.slots j).map fun x => { x with failures := n } else nth1 m.slots j :=
  nth1_modify1 _ _ _ _

theorem Session.nth1_restate (m : Session) (old new : SlotState) (j : Nat) :
    nth1 (m.restate old new).slots j
      = (nth1 m.slots j).map fun x => if x.state = old then { x with state := new } else x := by
  unfold Session.restate nth1
  split <;> simp

/-- Slots are the same when they are at every number. -/
theorem slots_ext {l r : List Slot} (same : ∀ j, nth1 l j = nth1 r j) : l = r := by
  refine List.ext_getElem? fun n => ?_
  have at_ := same (n + 1)
  rwa [nth1_add_one, nth1_add_one] at at_

/-- Slot k RETIRED with count 0 (R107). -/
def Session.retireSlot (m : Session) (k : Nat) : Session := (m.setRun k 1 .retired).setFailures k 0

theorem Session.nth1_retireSlot (m : Session) (k j : Nat) :
    nth1 (m.retireSlot k).slots j
      = if j = k then (nth1 m.slots j).map fun _ => { state := .retired, failures := 0 } else nth1 m.slots j := by
  rw [Session.retireSlot, Session.nth1_setFailures, Session.nth1_setRun]
  by_cases here : j = k
  · subst here
    cases nth1 m.slots j <;> simp
  · have outside : ¬ (k ≤ j ∧ j < k + 1) := by omega
    simp only [outside, here, if_false]
    exact Option.map_id'

/-- The count that a slot had is of no account once it is RETIRED. -/
theorem Session.retireSlot_setFailures (m : Session) (k n : Nat) :
    ((m.setFailures k n).retireSlot k).slots = (m.retireSlot k).slots := by
  refine slots_ext fun j => ?_
  rw [Session.nth1_retireSlot, Session.nth1_retireSlot, Session.nth1_setFailures]
  split
  · cases nth1 m.slots j <;> rfl
  · rfl

/-! ### The register entry of the magazine -/

theorem find_map_entry {r : List RegisterEntry} {tag : Nat} {e : RegisterEntry} (f : RegisterEntry → RegisterEntry)
    (keepsTag : ∀ e, (f e).tag = e.tag) (found : r.find? (·.tag == tag) = some e) :
    (r.map fun e => if e.tag = tag then f e else e).find? (·.tag == tag) = some (f e) := by
  have tagKept : ((·.tag == tag) ∘ fun e : RegisterEntry => if e.tag = tag then f e else e) = (·.tag == tag) := by
    funext x
    dsimp only [Function.comp]
    split <;> simp [keepsTag]
  have same : e.tag = tag := by simpa using List.find?_some found
  rw [List.find?_map, tagKept, found]
  simp [same]

theorem State.modifyEntry_find {s : State} {tag : Nat} {e : RegisterEntry} (f : RegisterEntry → RegisterEntry)
    (keepsTag : ∀ e, (f e).tag = e.tag) (found : s.magazine.register.find? (·.tag == tag) = some e) :
    (s.modifyEntry tag f).magazine.register.find? (·.tag == tag) = some (f e) := by
  have register : (s.modifyEntry tag f).magazine.register
      = s.magazine.register.map fun e => if e.tag = tag then f e else e := by
    simp [State.modifyEntry, State.setRegister]
  rw [register]
  exact find_map_entry f keepsTag found

/-! ### The slot retired -/

/-- The part with slot k RETIRED and listed, before the board that had it reserved is loosened (R107). -/
def State.slotListed (s : State) (tag k : Nat) : State :=
  (s.modifyEntry tag fun e => { e with retired := insertAscending k e.retired }).modifySession (·.retireSlot k)

@[simp] theorem State.slotListed_frame (s : State) (tag k : Nat) :
    (s.slotListed tag k).panels = s.panels ∧ (s.slotListed tag k).cell = s.cell
      ∧ (s.slotListed tag k).gripper = s.gripper ∧ (s.slotListed tag k).insertion = s.insertion
      ∧ (s.slotListed tag k).elevator = s.elevator := by
  simp [State.slotListed, State.modifyEntry]

theorem State.slotListed_session {s : State} {m : Session} (tag k : Nat) (loaded : s.magazine.session = some m) :
    (s.slotListed tag k).magazine.session = some (m.retireSlot k) := by
  simp [State.slotListed, State.modifyEntry, State.setRegister, State.modifySession, loaded]

theorem State.slotListed_register {s : State} {tag k : Nat} {e : RegisterEntry}
    (found : s.magazine.register.find? (·.tag == tag) = some e) :
    (s.slotListed tag k).magazine.register.find? (·.tag == tag)
      = some { e with retired := insertAscending k e.retired } := by
  simpa [State.slotListed] using
    State.modifyEntry_find (fun e => { e with retired := insertAscending k e.retired }) (fun _ => rfl) found

/-- Slot k is reserved for no board that is found (6.3). -/
def State.SlotFree (s : State) (k : Nat) : Prop :=
  ((s.magazine.session.bind fun m => nth1 m.slots k).bind fun x => x.state.reservedFor).bind s.locateId = none

theorem State.retire_of_free {s : State} {k : Nat} (tag : Nat) (free : s.SlotFree k) :
    s.retire tag k = (s.slotListed tag k).raise .slotRetired := by
  unfold State.SlotFree at free
  simp only [State.retire, free]
  rfl

theorem State.retire_of_reserved {s : State} {k : Nat} {m : Session} {x : Slot} {l : Located} (tag : Nat)
    (loaded : s.magazine.session = some m) (slot : nth1 m.slots k = some x) (reserved : x.state = .reserved l.id)
    (found : s.locateId l.id = some l) :
    s.retire tag k = ((s.slotListed tag k).loosen l).raise .slotRetired := by
  simp only [State.retire, loaded, Option.bind_some, slot, reserved, SlotState.reservedFor, found]
  rfl

/-! ### The seat failure, case by case -/

section
variable {s : State} {k : Nat} {m : Session} {x : Slot}

/-- The part with the failure counted (R107). -/
def State.failureCounted (s : State) (k n : Nat) : State := s.modifySession (·.setFailures k n)

theorem State.failureCounted_session (n : Nat) (loaded : s.magazine.session = some m) :
    (s.failureCounted k n).magazine.session = some (m.setFailures k n) := by
  simp [State.failureCounted, State.modifySession, loaded]

theorem State.seatFailure_counted (loaded : s.magazine.session = some m) (slot : nth1 m.slots k = some x)
    (quiet : min 2 (x.failures + 1) < 2 ∨ m.condemned = true) :
    s.seatFailure k = s.failureCounted k (min 2 (x.failures + 1)) := by
  simp only [State.seatFailure, loaded, slot, Option.map_some, Option.getD_some]
  exact if_pos quiet

theorem State.seatFailure_second (loaded : s.magazine.session = some m) (slot : nth1 m.slots k = some x)
    (second : 1 ≤ x.failures) (sound : m.condemned = false) {e : RegisterEntry}
    (known : s.magazine.register.find? (·.tag == m.tag) = some e) :
    s.seatFailure k = if e.retired.length < 8 then (s.failureCounted k 2).retire m.tag k
      else (s.failureCounted k 2).condemn m.tag := by
  have two : min 2 (x.failures + 1) = 2 := by omega
  simp only [State.seatFailure, loaded, slot, Option.map_some, Option.getD_some, two, known]
  exact if_neg (by simp [sound])

end

/-! ### What a retiring leaves -/

/-- The register entry and SLOT_RETIRED, after the raise of it on a state that lists the slot. -/
theorem RetiredInRegister.of_raise {s v : State} {m : Session} {e : RegisterEntry} {k : Nat}
    (listed : v.magazine.register.find? (·.tag == m.tag) = some { e with retired := insertAscending k e.retired })
    (fault : v.fault .slotRetired = s.fault .slotRetired) : RetiredInRegister s (v.raise .slotRetired) m e k := by
  refine ⟨by simpa using listed, fun on => ?_⟩
  have on' : (v.fault .slotRetired).enabled = true := by rw [fault]; exact on
  refine ⟨?_, v.raise_posts on'⟩
  rw [(v.raise_enabled on').1, fault]
  rfl

/-- A retired slot whose board, if any, is loosened: the register, the session and the board. -/
theorem State.retire_retires {s : State} {k : Nat} {m : Session} {e : RegisterEntry}
    (loaded : s.magazine.session = some m) (known : s.magazine.register.find? (·.tag == m.tag) = some e)
    (free : s.SlotFree k) :
    RetiredInRegister s (s.retire m.tag k) m e k
      ∧ (s.retire m.tag k).magazine.session = some (m.retireSlot k) ∧ (s.retire m.tag k).panels = s.panels := by
  rw [State.retire_of_free m.tag free]
  exact ⟨.of_raise (State.slotListed_register known) (State.fault_of_faults (by simp) _),
    by simpa using State.slotListed_session m.tag k loaded, by simp⟩

theorem State.retire_loosens {s : State} {k : Nat} {m : Session} {x : Slot} {e : RegisterEntry} {l : Located}
    (loaded : s.magazine.session = some m) (known : s.magazine.register.find? (·.tag == m.tag) = some e)
    (slot : nth1 m.slots k = some x) (reserved : x.state = .reserved l.id) (found : s.locateId l.id = some l) :
    RetiredInRegister s (s.retire m.tag k) m e k
      ∧ (s.retire m.tag k).magazine.session = some ((m.retireSlot k).restate (.reserved l.id) .empty)
      ∧ s.BoardChanged (s.retire m.tag k) l.record l.index Board.loosened
      ∧ (s.retire m.tag k).isPending .pick .destinationReady = true := by
  rw [State.retire_of_reserved m.tag loaded slot reserved found]
  have session := State.slotListed_session m.tag k loaded
  have loosened := State.loosen_session (s.slotListed m.tag k) l
  refine ⟨.of_raise ?_ (State.fault_of_faults (by simp) _), ?_, ?_, (State.Posts.raise (.refl _) _).keeps
    (State.loosen_posts _ _)⟩
  · rw [loosened]
    simpa using State.slotListed_register known
  · simp [loosened, State.modifySession, session]
  · have listed : s.BoardChanged (s.slotListed m.tag k) l.record l.index id :=
      (State.BoardChanged.refl s l.record l.index).same (by simp)
    exact (listed.loosen.same (by simp)).congr rfl

/-! ### What a condemning leaves -/

/-- The magazine as it is condemned (R108). -/
def Session.ruined (m : Session) : Session := { m with condemned := true, full := some 1 }

theorem State.condemn_condemns {s : State} {m : Session} {e : RegisterEntry}
    (loaded : s.magazine.session = some m) (known : s.magazine.register.find? (·.tag == m.tag) = some e) :
    CondemnedInRegister s (s.condemn m.tag) m e ∧ (s.condemn m.tag).magazine.session = some m.ruined
      ∧ (s.condemn m.tag).panels = s.panels := by
  let v := (s.modifyEntry m.tag fun e => { e with condemned := true }).modifySession fun m => { m with condemned := true }
  have session : (s.condemn m.tag).magazine.session = some m.ruined := by
    simp [State.condemn, State.markFull, State.modifySession, State.modifyEntry, State.setRegister, loaded, Session.ruined]
  have table : v.fault .magazineCondemned = s.fault .magazineCondemned :=
    State.fault_of_faults (by simp [v, State.modifyEntry]) _
  have raised : (s.condemn m.tag).fault .magazineCondemned = (v.raise .magazineCondemned).fault .magazineCondemned :=
    State.fault_of_faults (by simp [State.condemn, v]) _
  refine ⟨⟨by rw [session]; rfl, ?_, State.isPending_post _ (by decide), fun on => ⟨?_, ?_⟩⟩, session,
    by simp [State.condemn, State.modifyEntry]⟩
  · simpa [State.condemn] using State.modifyEntry_find (fun e => { e with condemned := true }) (fun _ => rfl) known
  · rw [raised, (v.raise_enabled (by rw [table]; exact on)).1, table]
    rfl
  · exact (State.Posts.markFull (.refl _) 1).keeps (v.raise_posts (by rw [table]; exact on))

end Sys2Proof.Machine

/-! PROOFS. An insertion drawn back, and a board found ABSENT: the first failure and the second (R60, R107, R109,
R139). -/

namespace Sys2Proof.Machine

open Sys2Proof

/-! ### The full mark of a condemned magazine -/

/-- The end of a change leaves the mark of a condemned magazine that stands at 1 (R101, R108). -/
theorem commit_session_condemned {before after : State} {u : Session} (loaded : after.magazine.session = some u)
    (condemned : u.condemned = true) (full : u.full = some 1) :
    (commit before after).magazine.session = some u := by
  have kept : (commit before after).magazine = (before.refreshFull after).magazine := by simp [commit]
  have marked : ({ u with full := some 1 } : Session) = u := by rw [← full]
  rw [kept]
  unfold State.refreshFull
  split
  next loadedAfter =>
    obtain rfl := Option.some.inj (loadedAfter.symm.trans loaded)
    split
    · exact loaded
    · split
      · simp [State.markFull, State.modifySession, loaded, full, marked]
      · rw [full]
        simp [condemned, loaded]
  next => exact loaded
  next => exact loaded

/-! ### SeatFailureOfASlot -/

theorem State.failureCounted_slot {s : State} {k n : Nat} {m : Session} {x : Slot}
    (slot : nth1 m.slots k = some x) : nth1 (m.setFailures k n).slots k = some { x with failures := n } := by
  rw [Session.nth1_setFailures, if_pos rfl, slot]
  rfl

/-- The board that a RESERVED slot is kept for, when it is found. -/
theorem SlotState.reservedFor_eq_some {x : SlotState} {id : BoardId} : x.reservedFor = some id ↔ x = .reserved id := by
  cases x <;> simp [SlotState.reservedFor]

theorem seatFailureOfASlot : Says.SeatFailureOfASlot := by
  intro s k m x e loaded slot known safe n t
  refine ⟨fun quiet => State.seatFailure_counted loaded slot quiet, fun two sound room => ?retires,
    fun two sound full => ?condemns⟩
  all_goals
    have second : 1 ≤ x.failures := by omega
    have counted := s.failureCounted_session (k := k) 2 loaded
    have slot' : nth1 (m.setFailures k 2).slots k = some { x with failures := 2 } := State.failureCounted_slot (s := s) slot
    have fails := State.seatFailure_second loaded slot second sound known
  case retires =>
    rw [if_pos room] at fails
    have eq : t = (s.failureCounted k 2).retire (m.setFailures k 2).tag k := fails
    rw [eq]
    have retiredSlot : nth1 ((m.setFailures k 2).retireSlot k).slots k = some { state := .retired, failures := 0 } := by
      rw [Session.nth1_retireSlot, if_pos rfl, slot', Option.map_some]
    cases held : (x.state.reservedFor).bind s.locateId with
    | none =>
        have free : (s.failureCounted k 2).SlotFree k := by
          unfold State.SlotFree
          rw [counted, Option.bind_some, slot', Option.bind_some]
          exact held
        obtain ⟨⟨listed, raised⟩, session, -⟩ := State.retire_retires counted known free
        refine ⟨⟨_, session, retiredSlot⟩, listed, fun on => (raised on).1, fun l reserved found => ?_⟩
        simp [reserved, SlotState.reservedFor, found] at held
    | some l₀ =>
        obtain ⟨id, names, found₀⟩ := Option.bind_eq_some_iff.mp held
        obtain ⟨-, -, rfl, -⟩ := State.locateId_eq_some found₀
        have reserved₀ := SlotState.reservedFor_eq_some.mp names
        obtain ⟨⟨listed, raised⟩, session, changed, told⟩ :=
          State.retire_loosens counted known slot' reserved₀ found₀
        have started : s.BoardChanged _ l₀.record l₀.index Board.loosened := changed
        refine ⟨⟨_, session, ?_⟩, listed, fun on => (raised on).1, fun l reserved found => ?_⟩
        · rw [Session.nth1_restate, retiredSlot]
          rfl
        · have same : l.id = l₀.id := by simpa using reserved.symm.trans reserved₀
          obtain rfl : l = l₀ := Option.some.inj (found.symm.trans (same ▸ found₀))
          refine ⟨(started.boards (State.boardAt_of_locate (State.locate_of_id found))).1, told, fun u j y is at_ => ?_⟩
          obtain rfl := Option.some.inj (session.symm.trans is)
          rw [Session.nth1_restate] at at_
          obtain ⟨z, -, rfl⟩ := Option.map_eq_some_iff.mp at_
          split <;> simp_all
  case condemns =>
    rw [if_neg (Nat.not_lt.mpr full)] at fails
    have eq : t = (s.failureCounted k 2).condemn (m.setFailures k 2).tag := fails
    rw [eq]
    obtain ⟨⟨-, listed, told, raised⟩, session, panels⟩ := State.condemn_condemns counted known
    exact ⟨⟨_, session, rfl, rfl, slot'⟩, listed, told, panels, fun on => (raised on).1⟩

/-! ### An insertion drawn back (R60, R139) -/

/-- The board BOUND again, as a drawn back insertion first leaves it. -/
def Board.backToBound (board : Board) : Board := { board with state := .bound }

/-- The part with the insertion closed and its board BOUND again, before the failure is counted (R139). -/
def State.backed (s : State) (l : Located) : State := s.closeInsertion.moveBoard l.record l.index .bound

theorem State.drawBack_eq (s : State) (l : Located) (k : Nat) :
    s.drawBack l k = ((s.backed l).seatFailure k).divertIfBound l.id := rfl

theorem State.backed_changed (s : State) (l : Located) :
    s.BoardChanged (s.backed l) l.record l.index Board.backToBound :=
  ((State.BoardChanged.refl s l.record l.index).same (u := s.closeInsertion) rfl).moveBoard .bound

@[simp] theorem State.backed_frame (s : State) (l : Located) :
    (s.backed l).magazine = s.magazine ∧ (s.backed l).cell = s.cell ∧ (s.backed l).elevator = s.elevator
      ∧ (s.backed l).gripper = s.gripper ∧ (s.backed l).insertion = { s.insertion with insertion := none } := by
  simp [State.backed, State.closeInsertion]

theorem State.drawBack_insertion (s : State) (l : Located) (k : Nat) :
    (s.drawBack l k).insertion = { s.insertion with insertion := none } := by
  simp [State.drawBack_eq]

theorem State.divertIfBound_bound {u : State} {id : BoardId} {l : Located} (found : u.locateId id = some l)
    (bound : l.board.state = .bound) : u.divertIfBound id = if l.board.divert then u.loosen l else u := by
  simp [State.divertIfBound, found, bound]

theorem State.divertIfBound_other {u : State} {id : BoardId} {l : Located} (found : u.locateId id = some l)
    (other : l.board.state ≠ .bound) : u.divertIfBound id = u := by
  simp [State.divertIfBound, found, other]

/-- After a seat failure that leaves the boards, a board drawn back is BOUND, or LOOSE if it was diverted (R60). -/
theorem State.drawBack_settles {s : State} {l : Located} {k : Nat} (found : s.locateId l.id = some l)
    (panels : ((s.backed l).seatFailure k).panels = (s.backed l).panels) :
    let u := (s.backed l).seatFailure k
    (l.board.divert = false → s.drawBack l k = u)
      ∧ (l.board.divert = true → ∃ back : Located, s.drawBack l k = u.loosen back ∧ back.id = l.id
          ∧ back.record = l.record ∧ back.index = l.index) := by
  intro u
  obtain ⟨q, after, serial, -⟩ := (s.backed_changed l).locateId found rfl rfl
  have there : u.locateId l.id = some { l with panel := q, board := l.board.backToBound } :=
    (State.locateId_of_panels panels _).trans after
  have divert := State.divertIfBound_bound there rfl
  refine ⟨fun clear => ?_, fun set =>
    ⟨{ l with panel := q, board := l.board.backToBound }, ?_, by simp [Located.id, serial], rfl, rfl⟩⟩
  · rw [State.drawBack_eq, divert]
    exact if_neg (by simp [Board.backToBound, clear])
  · rw [State.drawBack_eq, divert]
    exact if_pos set

/-- The body of the answer: the board's state, the slot of a BOUND one, and the slot's count (R139). -/
theorem State.drawBackBody_of {t : State} {l : Located} {k : Nat} {board : Board} {slots : List Slot} {x : Slot}
    (after : t.boardAt l.record l.index = some board) (loaded : t.magazine.session.map (·.slots) = some slots)
    (slot : nth1 slots k = some x) :
    t.drawBackBody l k = n8 board.state.code ++ (if board.state = .bound then n8 k else []) ++ n32 x.failures := by
  obtain ⟨b, located, rfl⟩ := Option.map_eq_some_iff.mp after
  obtain ⟨u, session, rfl⟩ := Option.map_eq_some_iff.mp loaded
  simp only [State.drawBackBody, located, State.failureBytes, session, Option.bind_some, slot]

/-! ### The first failure of a drawn back insertion, or one in a condemned magazine (R139) -/

/-- What INSERT_END aborted leaves while the failure only counts: the board BOUND, with the slot's new count. -/
theorem drawBack_counted_bound {s : State} {l : Located} {k : Nat} {m : Session} {x : Slot}
    (found : s.locateId l.id = some l) (loaded : s.magazine.session = some m) (slot : nth1 m.slots k = some x)
    (quiet : min 2 (x.failures + 1) < 2 ∨ m.condemned = true) (clear : l.board.divert = false) :
    s.drawBack l k = (s.backed l).failureCounted k (min 2 (x.failures + 1)) := by
  have counts := State.seatFailure_counted (s := s.backed l) (by simpa using loaded) slot quiet
  rw [(State.drawBack_settles found (by rw [counts]; rfl)).1 clear, counts]

theorem drawBack_counted_loose {s : State} {l : Located} {k : Nat} {m : Session} {x : Slot}
    (found : s.locateId l.id = some l) (loaded : s.magazine.session = some m) (slot : nth1 m.slots k = some x)
    (quiet : min 2 (x.failures + 1) < 2 ∨ m.condemned = true) (set : l.board.divert = true) :
    ∃ back : Located, s.drawBack l k = ((s.backed l).failureCounted k (min 2 (x.failures + 1))).loosen back
      ∧ back.id = l.id ∧ back.record = l.record ∧ back.index = l.index := by
  have counts := State.seatFailure_counted (s := s.backed l) (by simpa using loaded) slot quiet
  obtain ⟨back, eq, same⟩ := (State.drawBack_settles found (by rw [counts]; rfl)).2 set
  exact ⟨back, by rw [eq, counts], same⟩

/-- A board loosened under the name, the record and the index of another form of it. -/
theorem State.BoardChanged.loosen_as {s t : State} {l back : Located} {f : Board → Board}
    (h : s.BoardChanged t l.record l.index f) (record : back.record = l.record) (index : back.index = l.index) :
    s.BoardChanged (t.loosen back) l.record l.index (Board.loosened ∘ f) := by
  rw [← record, ← index] at h ⊢
  exact h.loosen

theorem State.loosen_slots {s : State} {m : Session} {l back : Located} (loaded : s.magazine.session = some m)
    (name : back.id = l.id) :
    (s.loosen back).magazine.session = some (m.restate (.reserved l.id) .empty) := by
  simp [State.loosen_session, State.modifySession, loaded, name]

/-! ### The second failure of a drawn back insertion (R107, R108, R139) -/

/-- INSERT_END aborted, past its checks. -/
theorem insertEndAborted_answers {s : State} {p : Port} {serial : Word32} {b : Byte} {l : Located} {k : Nat}
    (reaches : s.Reaches p 63) (found : s.locateId { serial := serial.toNat, board := b.toNat } = some l)
    (claim : s.gripper.claim = some l.id) (inserting : l.board.state = .inserting)
    (slot : l.board.destination = some (.slot k)) {body : List Byte}
    (is : (commit s (s.drawBack l k)).drawBackBody l k = body) :
    Answers (.insertEndAborted p serial b) s (commit s (s.drawBack l k)) p 63 .accepted body := by
  refine answers_of_handler reaches rfl ((State.onClaim_claimed found claim _).trans ?_)
  simp only [inserting, slot]
  exact Prod.ext rfl (congrArg (Reply.mk _) is)

/-- What every drawn back insertion leaves alone (R139). -/
theorem drawBack_closed (s : State) (l : Located) (k : Nat) :
    (commit s (s.drawBack l k)).insertion = { s.insertion with insertion := none }
      ∧ (commit s (s.drawBack l k)).elevator = s.elevator
      ∧ (commit s (s.drawBack l k)).gripper.claim = s.gripper.claim := by
  have insertion := s.drawBack_insertion l k
  exact ⟨by simpa using insertion, by simp, by simp⟩

theorem RetiredInRegister.commit {s t : State} {m : Session} {e : RegisterEntry} {k : Nat}
    (retired : RetiredInRegister s t m e k) (before : State) : RetiredInRegister s (commit before t) m e k := by
  obtain ⟨listed, raised⟩ := retired
  refine ⟨by simpa using listed, fun on => ?_⟩
  obtain ⟨count, told⟩ := raised on
  rw [State.fault_of_faults (s := t) (by simp)]
  exact ⟨count, commit_keepsPending _ _ _ _ told⟩

theorem CondemnedInRegister.commit {s t : State} {m u : Session} {e : RegisterEntry}
    (condemned : CondemnedInRegister s t m e) (loaded : t.magazine.session = some u) (isCondemned : u.condemned = true)
    (full : u.full = some 1) (before : State) : CondemnedInRegister s (commit before t) m e := by
  obtain ⟨-, listed, told, raised⟩ := condemned
  refine ⟨?_, by simpa using listed, commit_keepsPending _ _ _ _ told, fun on => ?_⟩
  · rw [commit_session_condemned loaded isCondemned full]
    simp [isCondemned, full]
  · obtain ⟨count, raised⟩ := raised on
    rw [State.fault_of_faults (s := t) (by simp)]
    exact ⟨count, commit_keepsPending _ _ _ _ raised⟩

/-- A condemned magazine whose board is loosened stays condemned. -/
theorem CondemnedInRegister.loosen {s t : State} {m u : Session} {e : RegisterEntry} (l : Located)
    (condemned : CondemnedInRegister s t m e) (loaded : t.magazine.session = some u) (isCondemned : u.condemned = true)
    (full : u.full = some 1) : CondemnedInRegister s (t.loosen l) m e := by
  obtain ⟨-, listed, told, raised⟩ := condemned
  refine ⟨?_, by simpa using listed, (State.Posts.loosen (.refl t) l).keeps told, fun on => ?_⟩
  · simp [State.loosen_session, State.modifySession, loaded, Session.restate, isCondemned, full]
  · obtain ⟨count, raised⟩ := raised on
    rw [State.fault_of_faults (s := t) (by simp)]
    exact ⟨count, (State.Posts.loosen (.refl t) l).keeps raised⟩

end Sys2Proof.Machine

/-! PROOFS. The second failure of a drawn back insertion, and RESOLVE_SLOT (R107 to R109, R139). -/

namespace Sys2Proof.Machine

open Sys2Proof

/-! ### INSERT_END aborted at the second failure -/

theorem State.drawBackBody_loose {t : State} {l : Located} {k : Nat} {slots : List Slot} {x : Slot} {n : Nat}
    (after : t.boardAt l.record l.index = some (l.board.backToBound.loosened))
    (loaded : t.magazine.session.map (·.slots) = some slots) (slot : nth1 slots k = some x)
    (count : x.failures = n) : t.drawBackBody l k = [4] ++ n32 n := by
  rw [← count, State.drawBackBody_of after loaded slot]
  simp [Board.loosened, BoardState.code, n8]

theorem State.drawBackBody_bound {t : State} {l : Located} {k : Nat} {slots : List Slot} {x : Slot} {n : Nat}
    (after : t.boardAt l.record l.index = some l.board.backToBound)
    (loaded : t.magazine.session.map (·.slots) = some slots) (slot : nth1 slots k = some x)
    (count : x.failures = n) : t.drawBackBody l k = [5, BitVec.ofNat 8 k] ++ n32 n := by
  rw [← count, State.drawBackBody_of after loaded slot]
  simp [Board.backToBound, BoardState.code, n8]

section
variable {s : State} {l : Located} {k : Nat} {m : Session} {x : Slot} {e : RegisterEntry}

theorem State.backed_known (known : s.magazine.register.find? (·.tag == m.tag) = some e) :
    ((s.backed l).failureCounted k 2).magazine.register.find? (·.tag == m.tag) = some e := by
  have register : ((s.backed l).failureCounted k 2).magazine.register = s.magazine.register := by
    simp [State.failureCounted]
  rw [register]
  exact known

/-- The slot is RETIRED, and the board that was being inserted is LOOSE (R107). -/
theorem State.drawBack_retires (found : s.locateId l.id = some l) (loaded : s.magazine.session = some m)
    (sound : m.condemned = false) (slot : nth1 m.slots k = some x) (reserved : x.state = .reserved l.id)
    (second : 1 ≤ x.failures) (known : s.magazine.register.find? (·.tag == m.tag) = some e)
    (room : e.retired.length < 8) :
    RetiredInRegister s (s.drawBack l k) m e k
      ∧ (s.drawBack l k).magazine.session
          = some (((m.setFailures k 2).retireSlot k).restate (.reserved l.id) .empty)
      ∧ s.BoardChanged (s.drawBack l k) l.record l.index (Board.loosened ∘ Board.backToBound)
      ∧ (s.drawBack l k).isPending .pick .destinationReady = true := by
  let w := (s.backed l).failureCounted k 2
  have fails : (s.backed l).seatFailure k = w.retire m.tag k :=
    (State.seatFailure_second (s := s.backed l) (by simpa using loaded) slot second sound (by simpa using known)).trans
      (if_pos room)
  have changed : s.BoardChanged w l.record l.index Board.backToBound := (s.backed_changed l).same rfl
  obtain ⟨q, after, serial, -⟩ := changed.locateId found rfl rfl
  let back : Located := { l with panel := q, board := l.board.backToBound }
  have name : back.id = l.id := by simp [back, Located.id, serial]
  obtain ⟨retired, session, loosened, told⟩ := State.retire_loosens (s := w) (l := back) (e := e)
    (State.failureCounted_session 2 (by simpa using loaded)) (State.backed_known known)
    (State.failureCounted_slot (s := s) slot) (by rw [name]; exact reserved) (by rw [name]; exact after)
  obtain ⟨q', there, -, -⟩ := loosened.locateId (id := l.id) after rfl rfl
  have eq : s.drawBack l k = w.retire m.tag k := by
    rw [State.drawBack_eq, fails]
    exact State.divertIfBound_other there (by simp [Board.loosened])
  have fault : w.fault .slotRetired = s.fault .slotRetired :=
    State.fault_of_faults (by simp [w, State.failureCounted]) _
  rw [eq]
  refine ⟨⟨retired.1, ?_⟩, ?_, changed.trans loosened, told⟩
  · rw [← fault]
    exact retired.2
  · rw [← name]
    exact session

/-- The magazine is condemned; the board is BOUND, or LOOSE if it was diverted (R108). -/
theorem State.drawBack_condemns (found : s.locateId l.id = some l) (loaded : s.magazine.session = some m)
    (sound : m.condemned = false) (slot : nth1 m.slots k = some x) (second : 1 ≤ x.failures)
    (known : s.magazine.register.find? (·.tag == m.tag) = some e) (full : 8 ≤ e.retired.length) :
    let u := (s.backed l).seatFailure k
    CondemnedInRegister s u m e ∧ u.magazine.session = some (m.setFailures k 2).ruined
      ∧ u.panels = (s.backed l).panels := by
  intro u
  let w := (s.backed l).failureCounted k 2
  have fails : u = w.condemn m.tag :=
    (State.seatFailure_second (s := s.backed l) (by simpa using loaded) slot second sound (by simpa using known)).trans
      (if_neg (Nat.not_lt.mpr full))
  obtain ⟨⟨mark, listed, told, raised⟩, session, panels⟩ := State.condemn_condemns (s := w) (m := m.setFailures k 2)
    (e := e) (State.failureCounted_session 2 (by simpa using loaded))
    (State.backed_known known)
  have fault : w.fault .magazineCondemned = s.fault .magazineCondemned :=
    State.fault_of_faults (by simp [w, State.failureCounted]) _
  rw [fails]
  refine ⟨⟨mark, listed, told, ?_⟩, session, panels⟩
  rw [← fault]
  exact raised

end

theorem secondFailureAtAnAbortedInsertion : Says.SecondFailureAtAnAbortedInsertion := by
  intro s p serial b l k m x e reaches named claim inserting destination loaded sound slot reserved second known
  intro i loose closed
  obtain ⟨-, -, name, stands⟩ := State.locateId_eq_some named
  have found : s.locateId l.id = some l := by rwa [name]
  have answers {body : List Byte} := insertEndAborted_answers (body := body) reaches named claim inserting destination
  obtain ⟨insertion, elevator, claimKept⟩ := drawBack_closed s l k
  have slot' : nth1 (m.setFailures k 2).slots k = some { x with failures := 2 } := State.failureCounted_slot (s := s) slot
  refine ⟨fun room => ⟨commit s (s.drawBack l k), ?retired⟩, fun full clear => ⟨commit s (s.drawBack l k), ?bound⟩,
    fun full set => ⟨commit s (s.drawBack l k), ?loose⟩⟩
  case retired =>
    obtain ⟨retired, session, changed, told⟩ :=
      State.drawBack_retires found loaded sound slot reserved second known room
    obtain ⟨board, elsewhere⟩ := (changed.commit s).boards stands
    have slots : (commit s (s.drawBack l k)).magazine.session.map (·.slots)
        = some ((((m.setRun k 1 .retired).setFailures k 0).restate (.reserved l.id) .empty).slots) := by
      rw [commit_session_map _ _ _ fun _ _ => rfl, session, Option.map_some, Session.restate_slots,
        Session.retireSlot_setFailures]
      rfl
    have retiredSlot : nth1 (((m.setRun k 1 .retired).setFailures k 0).restate (.reserved l.id) .empty).slots k
        = some { state := .retired, failures := 0 } := by
      have here := m.nth1_retireSlot k k
      rw [if_pos rfl, slot] at here
      rw [Session.nth1_restate]
      exact congrArg (Option.map _) here
    have body : (commit s (s.drawBack l k)).drawBackBody l k = [4] ++ n32 0 :=
      State.drawBackBody_loose board slots retiredSlot rfl
    exact ⟨answers body, board, ⟨insertion, elevator, claimKept, elsewhere⟩,
      commit_keepsPending _ _ _ _ told, slots, retired.commit s⟩
  case bound =>
    obtain ⟨condemned, session, panels⟩ := State.drawBack_condemns found loaded sound slot second known full
    have eq := (State.drawBack_settles found panels).1 clear
    have changed : s.BoardChanged (s.drawBack l k) l.record l.index Board.backToBound := by
      rw [eq]
      exact (s.backed_changed l).same panels
    obtain ⟨board, elsewhere⟩ := (changed.commit s).boards stands
    have slots : (commit s (s.drawBack l k)).magazine.session.map (·.slots) = some (m.setFailures k 2).slots := by
      rw [commit_session_map _ _ _ fun _ _ => rfl, eq, session]
      rfl
    have body : (commit s (s.drawBack l k)).drawBackBody l k = [5, BitVec.ofNat 8 k] ++ n32 2 :=
      State.drawBackBody_bound board slots slot' rfl
    refine ⟨answers body, board, ⟨insertion, elevator, claimKept, elsewhere⟩, slots, ?_⟩
    rw [eq]
    exact condemned.commit session rfl rfl s
  case loose =>
    obtain ⟨condemned, session, panels⟩ := State.drawBack_condemns found loaded sound slot second known full
    obtain ⟨back, eq, backName, record, index⟩ := (State.drawBack_settles found panels).2 set
    have changed : s.BoardChanged (s.drawBack l k) l.record l.index (Board.loosened ∘ Board.backToBound) := by
      rw [eq]
      exact ((s.backed_changed l).same panels).loosen_as record index
    obtain ⟨board, elsewhere⟩ := (changed.commit s).boards stands
    have emptied := State.loosen_slots session backName
    have slots : (commit s (s.drawBack l k)).magazine.session.map (·.slots)
        = some ((m.setFailures k 2).restate (.reserved l.id) .empty).slots := by
      rw [commit_session_map _ _ _ fun _ _ => rfl, eq, emptied]
      rfl
    have emptySlot : nth1 ((m.setFailures k 2).restate (.reserved l.id) .empty).slots k
        = some { state := .empty, failures := 2 } := by
      rw [Session.nth1_restate, slot']
      simp [reserved]
    have body : (commit s (s.drawBack l k)).drawBackBody l k = [4] ++ n32 2 :=
      State.drawBackBody_loose board slots emptySlot rfl
    refine ⟨answers body, board, ⟨insertion, elevator, claimKept, elsewhere⟩,
      commit_keepsPending _ _ _ _ ?_, slots, ?_⟩
    · rw [eq]
      exact State.loosen_posts _ _
    · rw [eq]
      exact (condemned.loosen back session rfl rfl).commit emptied rfl rfl s

end Sys2Proof.Machine

/-! PROOFS. RESOLVE_SLOT, and the seat failures together (R107 to R109). -/

namespace Sys2Proof.Machine

open Sys2Proof

/-! ### The slot in doubt (R109) -/

theorem SlotState.doubtFor_eq_some {x : SlotState} {id : BoardId} : x.doubtFor = some id ↔ x = .doubt id := by
  cases x <;> simp [SlotState.doubtFor]

/-- The board that slot n is in doubt about. -/
def Session.doubtHere (m : Session) (n : Nat) : Option BoardId := (nth1 m.slots n).bind fun x => x.state.doubtFor

theorem Session.doubtAt_eq (m : Session) (k : Nat) :
    m.doubtAt k = if m.doubtHere (k - 1) = m.doubtHere k then none else m.doubtHere k := rfl

theorem Session.doubtHere_eq_some {m : Session} {n : Nat} {id : BoardId} :
    m.doubtHere n = some id ↔ ∃ x, nth1 m.slots n = some x ∧ x.state = .doubt id := by
  simp [Session.doubtHere, Option.bind_eq_some_iff, SlotState.doubtFor_eq_some]

theorem Session.doubtAt_first {m : Session} {k : Nat} {x : Slot} {id : BoardId} (slot : nth1 m.slots k = some x)
    (doubt : x.state = .doubt id) (first : ∀ y, nth1 m.slots (k - 1) = some y → y.state ≠ .doubt id) :
    m.doubtAt k = some id := by
  have here : m.doubtHere k = some id := Session.doubtHere_eq_some.mpr ⟨x, slot, doubt⟩
  rw [Session.doubtAt_eq, here]
  refine if_neg fun before => ?_
  obtain ⟨y, found, same⟩ := Session.doubtHere_eq_some.mp before
  exact first y found same

theorem Session.doubtAt_settled {m : Session} {k : Nat}
    (settled : ∀ x id, nth1 m.slots k = some x → x.state ≠ .doubt id) : m.doubtAt k = none := by
  have here : m.doubtHere k = none := by
    cases doubt : m.doubtHere k with
    | none => rfl
    | some id =>
        obtain ⟨x, slot, state⟩ := Session.doubtHere_eq_some.mp doubt
        exact absurd state (settled x id slot)
  rw [Session.doubtAt_eq, here, ite_self]

theorem Session.doubtAt_later {m : Session} {k : Nat} {x y : Slot} {id : BoardId} (slot : nth1 m.slots k = some x)
    (doubt : x.state = .doubt id) (before : nth1 m.slots (k - 1) = some y) (same : y.state = .doubt id) :
    m.doubtAt k = none := by
  have here : m.doubtHere k = some id := Session.doubtHere_eq_some.mpr ⟨x, slot, doubt⟩
  have there : m.doubtHere (k - 1) = some id := Session.doubtHere_eq_some.mpr ⟨y, before, same⟩
  rw [Session.doubtAt_eq, here, there, if_pos rfl]

/-- RESOLVE_SLOT, past its checks, with the board its slot is in doubt about. -/
theorem resolveSlot_answers {s u : State} {p : Port} {slot finding : Byte} {m : Session} {x : Slot} {l : Located}
    {code : List Byte} (reaches : s.Reaches p 30) (loaded : s.magazine.session = some m) (low : 1 ≤ slot.toNat)
    (high : slot.toNat ≤ m.type.slotCount) (here : nth1 m.slots slot.toNat = some x) (doubt : x.state = .doubt l.id)
    (first : ∀ y, nth1 m.slots (slot.toNat - 1) = some y → y.state ≠ .doubt l.id) (found : s.locateId l.id = some l)
    (known : finding.toNat ≤ 1)
    (settles : (if finding = 0 then s.stow l slot.toNat else s.resolveAbsent l slot.toNat) = u)
    (after : (commit s u).boardCode l = code) :
    Answers (.resolveSlot p slot finding) s (commit s u) p 30 .accepted (l.id.bytes ++ code) := by
  refine answers_of_handler reaches rfl ?_
  have inside : ¬ (slot.toNat < 1 ∨ m.type.slotCount < slot.toNat) := by omega
  have named : (m.doubtAt slot.toNat).bind s.locateId = some l := by
    rw [Session.doubtAt_first here doubt first]
    exact found
  simp only [if_neg (Nat.not_lt.mpr known), loaded, if_neg inside, named, settles]
  exact Prod.ext rfl (congrArg (Reply.mk _) (congrArg (l.id.bytes ++ ·) after))

/-! ### The finding ABSENT (R107, R109) -/

/-- The slots with the run of a board in doubt EMPTY. -/
def Session.cleared (m : Session) (id : BoardId) : Session := m.restate (.doubt id) .empty

/-- The part with the run EMPTY and the board LOST, before the failure is counted. -/
def State.absent (s : State) (l : Located) : State :=
  ((s.modifySession (·.cleared l.id)).moveBoard l.record l.index .lost).review l.record l.index

theorem State.resolveAbsent_eq (s : State) (l : Located) (k : Nat) :
    s.resolveAbsent l k = (s.absent l).seatFailure k := rfl

@[simp] theorem State.absent_frame (s : State) (l : Located) :
    (s.absent l).magazine = (s.modifySession (·.cleared l.id)).magazine ∧ (s.absent l).cell = s.cell := by
  simp [State.absent]

theorem State.absent_session {s : State} {m : Session} (l : Located) (loaded : s.magazine.session = some m) :
    (s.absent l).magazine.session = some (m.cleared l.id) := by
  simp [State.modifySession, loaded]

theorem State.absent_board {s : State} {l : Located} (found : s.locate l.record l.index = some l) :
    ∃ review, review ≠ some .seatDoubt
      ∧ s.BoardChanged (s.absent l) l.record l.index fun board => { board with state := .lost, review := review } := by
  have moved := ((State.BoardChanged.refl s l.record l.index).same
    (u := s.modifySession (·.cleared l.id)) rfl).moveBoard .lost
  obtain ⟨p, after, -, -⟩ := moved.locate found
  exact ⟨_, State.reviewOf_ne_seatDoubt (by simp), moved.review after⟩

section
variable {s : State} {l : Located} {k : Nat} {m : Session} {x : Slot} {e : RegisterEntry}

theorem Session.cleared_slot (slot : nth1 m.slots k = some x) (doubt : x.state = .doubt l.id) :
    nth1 (m.cleared l.id).slots k = some { x with state := .empty } := by
  rw [Session.cleared, Session.nth1_restate, slot, Option.map_some, if_pos doubt]

/-- An EMPTY slot is reserved for no board. -/
theorem State.slotFree_of_empty {v : State} {u : Session} {y : Slot} (loaded : v.magazine.session = some u)
    (slot : nth1 u.slots k = some y) (empty : y.state = .empty) : v.SlotFree k := by
  simp [State.SlotFree, loaded, slot, empty, SlotState.reservedFor]

/-- A seat failure of an EMPTY slot leaves every board. -/
theorem State.seatFailure_panels {v : State} {u : Session} {y : Slot} (loaded : v.magazine.session = some u)
    (slot : nth1 u.slots k = some y) (empty : y.state = .empty) : (v.seatFailure k).panels = v.panels := by
  unfold State.seatFailure
  rw [loaded]
  dsimp only
  split
  · rfl
  · split
    · rfl
    · split
      · have free : (v.failureCounted k (min 2 (y.failures + 1))).SlotFree k :=
          State.slotFree_of_empty (State.failureCounted_session _ loaded) (State.failureCounted_slot (s := v) slot) empty
        have retires := State.retire_of_free u.tag free
        simp only [slot, Option.map_some, Option.getD_some]
        have same : (((v.failureCounted k (min 2 (y.failures + 1))).slotListed u.tag k).raise .slotRetired).panels
            = v.panels := by simp [State.failureCounted]
        exact (congrArg (·.panels) retires).trans same
      · simp

/-- The finding ABSENT at the second failure (R107, R108). -/
theorem State.absent_second (loaded : s.magazine.session = some m) (slot : nth1 m.slots k = some x)
    (doubt : x.state = .doubt l.id) (second : 1 ≤ x.failures) (sound : m.condemned = false)
    (known : s.magazine.register.find? (·.tag == m.tag) = some e) :
    (e.retired.length < 8 → RetiredInRegister s (s.resolveAbsent l k) m e k
        ∧ (s.resolveAbsent l k).magazine.session = some (((m.cleared l.id).setFailures k 2).retireSlot k))
      ∧ (8 ≤ e.retired.length → CondemnedInRegister s (s.resolveAbsent l k) m e
        ∧ (s.resolveAbsent l k).magazine.session = some ((m.cleared l.id).setFailures k 2).ruined) := by
  let w := (s.absent l).failureCounted k 2
  have cleared := Session.cleared_slot (l := l) slot doubt
  have kept : (s.absent l).magazine.register = s.magazine.register := by simp [State.modifySession]
  have fails := State.seatFailure_second (s := s.absent l) (e := e) (s.absent_session l loaded) cleared second sound
    (by rw [kept]; exact known)
  have session : w.magazine.session = some ((m.cleared l.id).setFailures k 2) :=
    State.failureCounted_session 2 (s.absent_session l loaded)
  have register : w.magazine.register = s.magazine.register := by simp [w, State.failureCounted, State.modifySession]
  have known' : w.magazine.register.find? (·.tag == m.tag) = some e := by rw [register]; exact known
  have table (j : FaultKind) : w.fault j = s.fault j := State.fault_of_faults (by simp [w, State.failureCounted]) j
  have free : w.SlotFree k := State.slotFree_of_empty session (State.failureCounted_slot (s := s) cleared) rfl
  refine ⟨fun room => ?_, fun full => ?_⟩
  · have eq : s.resolveAbsent l k = w.retire m.tag k := fails.trans (if_pos room)
    obtain ⟨⟨listed, raised⟩, after, -⟩ := State.retire_retires (e := e) session known' free
    rw [table] at raised
    rw [eq]
    exact ⟨⟨listed, raised⟩, after⟩
  · have eq : s.resolveAbsent l k = w.condemn m.tag := fails.trans (if_neg (Nat.not_lt.mpr full))
    obtain ⟨⟨mark, listed, told, raised⟩, after, -⟩ := State.condemn_condemns (e := e) session known'
    rw [table] at raised
    rw [eq]
    exact ⟨⟨mark, listed, told, raised⟩, after⟩

/-- The finding ABSENT while the failure only counts. -/
theorem State.absent_counted (loaded : s.magazine.session = some m) (slot : nth1 m.slots k = some x)
    (doubt : x.state = .doubt l.id) (quiet : min 2 (x.failures + 1) < 2 ∨ m.condemned = true) :
    (s.resolveAbsent l k).magazine.session = some ((m.cleared l.id).setFailures k (min 2 (x.failures + 1)))
      ∧ (s.resolveAbsent l k).magazine.register = s.magazine.register := by
  have cleared := Session.cleared_slot (l := l) slot doubt
  have eq : s.resolveAbsent l k = (s.absent l).failureCounted k (min 2 (x.failures + 1)) :=
    State.seatFailure_counted (s := s.absent l) (x := { x with state := .empty }) (s.absent_session l loaded) cleared
      quiet
  rw [eq]
  exact ⟨State.failureCounted_session _ (s.absent_session l loaded), by simp [State.failureCounted, State.modifySession]⟩

/-- What becomes of the board with the finding ABSENT. -/
theorem State.resolveAbsent_board (loaded : s.magazine.session = some m) (slot : nth1 m.slots k = some x)
    (doubt : x.state = .doubt l.id) (found : s.locateId l.id = some l) :
    ∃ review, review ≠ some .seatDoubt
      ∧ s.BoardChanged (s.resolveAbsent l k) l.record l.index fun board =>
          { board with state := .lost, review := review } := by
  obtain ⟨review, clear, changed⟩ := State.absent_board (State.locate_of_id found)
  exact ⟨review, clear, changed.same
    (State.seatFailure_panels (s.absent_session l loaded) (Session.cleared_slot slot doubt) rfl)⟩

end

theorem secondFailureAtAnAbsentBoard : Says.SecondFailureAtAnAbsentBoard := by
  intro s p slot l m x reaches loaded low high here doubt first found second emptied
  obtain ⟨review, clear, changed⟩ := State.resolveAbsent_board loaded here doubt found
  obtain ⟨board, elsewhere⟩ := (changed.commit s).boards (State.boardAt_of_locate (State.locate_of_id found))
  have two : min 2 (x.failures + 1) = 2 := by omega
  have slots (u : Session) (after : (s.resolveAbsent l slot.toNat).magazine.session = some u) :
      (commit s (s.resolveAbsent l slot.toNat)).magazine.session.map (·.slots) = some u.slots := by
    rw [commit_session_map _ _ _ fun _ _ => rfl, after]
    rfl
  refine ⟨commit s (s.resolveAbsent l slot.toNat),
    resolveSlot_answers reaches loaded low high here doubt first found (by decide) (if_neg (by decide))
      (State.boardCode_of board), ⟨review, board, clear⟩, elsewhere, fun condemned => ?_, fun e sound known => ?_⟩
  · obtain ⟨session, register⟩ := State.absent_counted (l := l) loaded here doubt (.inr condemned)
    rw [two] at session
    exact ⟨by simpa using register, slots _ session⟩
  · obtain ⟨retires, condemns⟩ := State.absent_second (l := l) loaded here doubt second sound known
    refine ⟨fun room => ?_, fun full => ?_⟩
    · obtain ⟨retired, session⟩ := retires room
      refine ⟨retired.commit s, (slots _ session).trans (congrArg some ?_)⟩
      exact Session.retireSlot_setFailures _ _ _
    · obtain ⟨condemned, session⟩ := condemns full
      exact ⟨condemned.commit session rfl rfl s, slots ((m.cleared l.id).setFailures slot.toNat 2).ruined session⟩

/-- Settles O47, by the failure itself and the two requests that count one at its second occurrence. -/
theorem seatFailuresRetireOrCondemn : Obligations.SeatFailuresRetireOrCondemn :=
  ⟨seatFailureOfASlot, secondFailureAtAnAbortedInsertion, secondFailureAtAnAbsentBoard⟩

/-! ### RESOLVE_SLOT -/

/-- Settles O46, by the checks in their order and by the finding. -/
theorem resolveSlotSettlesADoubt : Obligations.ResolveSlotSettlesADoubt := by
  intro s p slot finding reaches i
  refine ⟨fun unknown => refuses_of_handler reaches rfl (if_pos unknown), fun known =>
    ⟨fun none_ => refuses_of_handler reaches rfl ?none, fun m loaded =>
      ⟨fun outside => refuses_of_handler reaches rfl ?outside, fun low high =>
        ⟨fun settled => refuses_of_handler reaches rfl ?settled, fun x y id here doubt before same =>
          refuses_of_handler reaches rfl ?later, fun x l here doubt first found =>
            ⟨fun present => ?present, fun absent => ?absent⟩⟩⟩⟩⟩
  case none => simp only [if_neg (Nat.not_lt.mpr known), none_]
  case outside => simp only [if_neg (Nat.not_lt.mpr known), loaded, if_pos outside]
  case settled =>
    have inside : ¬ (slot.toNat < 1 ∨ m.type.slotCount < slot.toNat) := by omega
    simp only [if_neg (Nat.not_lt.mpr known), loaded, if_neg inside, Session.doubtAt_settled settled, Option.bind_none]
  case later =>
    have inside : ¬ (slot.toNat < 1 ∨ m.type.slotCount < slot.toNat) := by omega
    simp only [if_neg (Nat.not_lt.mpr known), loaded, if_neg inside, Session.doubtAt_later here doubt before same,
      Option.bind_none]
  case present =>
    have stowed := (s.stow_stowedAt slot.toNat (State.locate_of_id found) rfl loaded).commit s
    obtain ⟨-, ⟨review, board, -⟩, -⟩ := id stowed
    exact ⟨commit s (s.stow l slot.toNat), resolveSlot_answers reaches loaded low high here doubt first found known
      (if_pos present) (State.boardCode_of board), stowed⟩
  case absent =>
    obtain ⟨review, clear, changed⟩ := State.resolveAbsent_board loaded here doubt found
    obtain ⟨board, -⟩ := (changed.commit s).boards (State.boardAt_of_locate (State.locate_of_id found))
    refine ⟨commit s (s.resolveAbsent l slot.toNat), resolveSlot_answers reaches loaded low high here doubt first found
      known (if_neg (by simp [absent])) (State.boardCode_of board), ⟨review, board, clear⟩, fun fresh => ?_⟩
    obtain ⟨session, register⟩ := State.absent_counted (l := l) loaded here doubt (.inl (by omega))
    rw [show min 2 (x.failures + 1) = 1 by omega] at session
    refine ⟨?_, by simpa using register⟩
    rw [commit_session_map _ _ _ fun _ _ => rfl, session]
    rfl

end Sys2Proof.Machine

/-! PROOFS. INSERT_BEGIN and INSERT_END (R60, R128, R137, R139, R140). -/

namespace Sys2Proof.Machine

open Sys2Proof

/-! ### INSERT_BEGIN -/

theorem State.openInsertion_gripper (s : State) (l : Located) (k : Nat) :
    (s.openInsertion l k).gripper = s.gripper := by
  simp [State.openInsertion]

theorem insertBeginOpensAnInsertion : Says.InsertBeginOpensAnInsertion := by
  intro s p serial b l reaches named claim i
  obtain ⟨-, -, name, stands⟩ := State.locateId_eq_some named
  have found : s.locateId l.id = some l := by rwa [name]
  have handled {t : State} {v : Verdict} {body : List Byte}
      (rest : (match l.board.state, l.board.destination with
        | .bound, some (.slot k) =>
            if s.insertion.permission then refuse s .busy
            else if s.insertion.wait.isSome then refuse s .busy
            else if s.insertion.confirmation ≠ some k then refuse s .wrongState
            else accept s (s.openInsertion l k) fun _ => n8 k ++ bytes24 s.elevator.counter
        | _, _ => refuse s .wrongState) = (t, { verdict := v, body := body })) : Answers i s t p 62 v body :=
    answers_of_handler reaches rfl ((State.onClaim_claimed named claim _).trans rest)
  refine ⟨fun other => handled ?other, fun k bound slot => ⟨fun busy => handled ?busy, fun free quiet =>
    ⟨fun unconfirmed => handled ?unconfirmed, fun confirmed => ⟨commit s (s.openInsertion l k), handled ?opened, ?_⟩⟩⟩⟩
  case other =>
    split
    next bound slot => rcases other with other | other | other <;> simp_all
    next => rfl
  case busy =>
    simp only [bound, slot]
    rcases busy with busy | busy
    · exact if_pos busy
    · by_cases moving : s.insertion.permission = true
      · exact if_pos moving
      · exact (if_neg moving).trans (if_pos busy)
  case unconfirmed =>
    simp only [bound, slot, free, quiet, Option.isSome_none, Bool.false_eq_true, if_false]
    exact if_pos unconfirmed
  case opened =>
    simp only [bound, slot, free, quiet, Option.isSome_none, Bool.false_eq_true, if_false]
    exact if_neg (fun other => other confirmed)
  have moved : s.BoardChanged (s.openInsertion l k) l.record l.index fun board => { board with state := .inserting } :=
    ((State.BoardChanged.refl s l.record l.index).moveBoard .inserting).same rfl
  obtain ⟨board, elsewhere⟩ := (moved.commit s).boards stands
  have session : (s.openInsertion l k).magazine.session = s.magazine.session := by simp [State.openInsertion]
  have notReady : (s.openInsertion l k).destinationReady = false := by
    obtain ⟨q, after, -, -⟩ := moved.locateId found rfl rfl
    refine State.destinationReady_of_state (board := { l.board with state := .inserting }) ?_ (by simp)
    simp [State.claimed, State.openInsertion_gripper, claim, after]
  exact ⟨board, elsewhere, by simp [State.openInsertion], by simp [State.openInsertion],
    (commit_gripper session (.inr notReady)).trans (s.openInsertion_gripper l k),
    (commit_magazine session).trans (by simp [State.openInsertion]), by simp [State.openInsertion],
    by simp [State.openInsertion]⟩

/-! ### INSERT_END aborted, while the failure only counts -/

/-- With the states of the slots as they were the full mark stays as the change set it. -/
theorem State.refreshFull_of_states {before after : State} {m m' : Session}
    (loadedBefore : before.magazine.session = some m) (loadedAfter : after.magazine.session = some m')
    (states : m'.slots.map (·.state) = m.slots.map (·.state)) : before.refreshFull after = after := by
  simp [State.refreshFull, loadedBefore, loadedAfter, states]

theorem Session.setFailures_states (m : Session) (k n : Nat) :
    (m.setFailures k n).slots.map (·.state) = m.slots.map (·.state) := by
  refine List.ext_getElem? fun j => ?_
  have at_ := m.nth1_setFailures k n (j + 1)
  rw [nth1_add_one, nth1_add_one] at at_
  rw [List.getElem?_map, List.getElem?_map, at_]
  split <;> simp [Function.comp_def]

/-- The end of a change that leaves the states of the slots, and no DESTINATION that could bind: the tracker stays. -/
theorem commit_gripper_of_states {before after : State} {m m' : Session}
    (loadedBefore : before.magazine.session = some m) (loadedAfter : after.magazine.session = some m')
    (states : m'.slots.map (·.state) = m.slots.map (·.state)) (notReady : after.destinationReady = false) :
    (commit before after).gripper = after.gripper := by
  have quiet : before.refreshWait after = after := by
    unfold State.refreshWait
    refine if_neg ?_
    rintro ⟨-, -, ready⟩
    simp [notReady] at ready
  simp [commit, State.refreshFull_of_states loadedBefore loadedAfter states, quiet]

/-- A failure counted leaves a drawn back board BOUND, or LOOSE if it was diverted (R60, R139). -/
theorem abortedInsertionCounts {s : State} {p : Port} {serial : Word32} {b : Byte} {l : Located} {k : Nat}
    {m : Session} {x : Slot} (reaches : s.Reaches p 63)
    (named : s.locateId { serial := serial.toNat, board := b.toNat } = some l) (claim : s.gripper.claim = some l.id)
    (inserting : l.board.state = .inserting) (destination : l.board.destination = some (.slot k))
    (loaded : s.magazine.session = some m) (slot : nth1 m.slots k = some x)
    (quiet : x.failures = 0 ∨ m.condemned = true) :
    let aborted := Instr.insertEndAborted p serial b
    let n := min 2 (x.failures + 1)
    (l.board.divert = false → ∃ t, Answers aborted s t p 63 .accepted ([5, BitVec.ofNat 8 k] ++ n32 n)
      ∧ t.boardAt l.record l.index = some { l.board with state := .bound } ∧ BoardsElsewhere s t l.record l.index
      ∧ t.insertion = { s.insertion with insertion := none } ∧ t.elevator = s.elevator ∧ t.gripper = s.gripper
      ∧ (t.magazine.session.map (·.slots)) = some (m.setFailures k n).slots)
    ∧ (l.board.divert = true → ∃ t, Answers aborted s t p 63 .accepted ([4] ++ n32 n)
      ∧ t.boardAt l.record l.index = some { l.board with state := .loose, destination := none }
      ∧ BoardsElsewhere s t l.record l.index ∧ t.insertion = { s.insertion with insertion := none }
      ∧ t.isPending .pick .destinationReady = true ∧ t.gripper.claim = s.gripper.claim
      ∧ (t.magazine.session.map (·.slots)) = some ((m.setFailures k n).restate (.reserved l.id) .empty).slots) := by
  intro aborted n
  obtain ⟨-, -, name, stands⟩ := State.locateId_eq_some named
  have found : s.locateId l.id = some l := by rwa [name]
  have counts : min 2 (x.failures + 1) < 2 ∨ m.condemned = true := quiet.imp_left (by omega)
  have answers {body : List Byte} := insertEndAborted_answers (body := body) reaches named claim inserting destination
  obtain ⟨insertion, elevator, claimKept⟩ := drawBack_closed s l k
  have session : ((s.backed l).failureCounted k n).magazine.session = some (m.setFailures k n) :=
    State.failureCounted_session n (by simpa using loaded)
  have slot' : nth1 (m.setFailures k n).slots k = some { x with failures := n } := State.failureCounted_slot (s := s) slot
  have backed : s.BoardChanged ((s.backed l).failureCounted k n) l.record l.index Board.backToBound :=
    (s.backed_changed l).same rfl
  refine ⟨fun clear => ⟨commit s (s.drawBack l k), ?bound⟩, fun set => ⟨commit s (s.drawBack l k), ?loose⟩⟩
  case bound =>
    have eq : s.drawBack l k = (s.backed l).failureCounted k n := drawBack_counted_bound found loaded slot counts clear
    have changed : s.BoardChanged (s.drawBack l k) l.record l.index Board.backToBound := by rw [eq]; exact backed
    obtain ⟨board, elsewhere⟩ := (changed.commit s).boards stands
    have slots : (commit s (s.drawBack l k)).magazine.session.map (·.slots) = some (m.setFailures k n).slots := by
      rw [commit_session_map _ _ _ fun _ _ => rfl, eq, session]
      rfl
    have gripper : (s.drawBack l k).gripper = s.gripper := by simp
    have notReady : (s.drawBack l k).destinationReady = false := by
      obtain ⟨q, after, -, -⟩ := changed.locateId found rfl rfl
      refine State.destinationReady_of_state (board := l.board.backToBound) ?_ (by simp [Board.backToBound])
      simp [State.claimed, gripper, claim, after]
    refine ⟨answers (State.drawBackBody_bound board slots slot' rfl), board, elsewhere, insertion, elevator, ?_, slots⟩
    exact (commit_gripper_of_states loaded (by rw [eq]; exact session) (m.setFailures_states k n) notReady).trans gripper
  case loose =>
    obtain ⟨back, eq, backName, record, index⟩ := drawBack_counted_loose found loaded slot counts set
    have changed : s.BoardChanged (s.drawBack l k) l.record l.index (Board.loosened ∘ Board.backToBound) := by
      rw [eq]
      exact backed.loosen_as record index
    obtain ⟨board, elsewhere⟩ := (changed.commit s).boards stands
    have slots : (commit s (s.drawBack l k)).magazine.session.map (·.slots)
        = some ((m.setFailures k n).restate (.reserved l.id) .empty).slots := by
      rw [commit_session_map _ _ _ fun _ _ => rfl, eq, State.loosen_slots session backName]
      rfl
    have slotAfter : ∃ y, nth1 ((m.setFailures k n).restate (.reserved l.id) .empty).slots k = some y
        ∧ y.failures = n := by
      rw [Session.nth1_restate, slot', Option.map_some]
      refine ⟨_, rfl, ?_⟩
      split <;> rfl
    obtain ⟨y, at_, count⟩ := slotAfter
    refine ⟨answers (State.drawBackBody_loose board slots at_ count), board, elsewhere, insertion,
      commit_keepsPending _ _ _ _ ?_, claimKept, slots⟩
    rw [eq]
    exact State.loosen_posts _ _

end Sys2Proof.Machine

/-! PROOFS. INSERT_END seated (R47, R140 to R142). -/

namespace Sys2Proof.Machine

open Sys2Proof

/-! ### The board let go of -/

/-- The board VERIFYING, as a seated insertion first leaves it. -/
def Board.verifying (board : Board) : Board := { board with state := .verifying }

/-- The part with the insertion closed, the board VERIFYING and the claim empty (R140). -/
def State.lettingGo (s : State) (l : Located) : State :=
  (s.closeInsertion.moveBoard l.record l.index .verifying).emptyClaim

theorem State.lettingGo_changed (s : State) (l : Located) :
    s.BoardChanged (s.lettingGo l) l.record l.index Board.verifying :=
  (((State.BoardChanged.refl s l.record l.index).same (u := s.closeInsertion) rfl).moveBoard .verifying).same rfl

@[simp] theorem State.lettingGo_frame (s : State) (l : Located) :
    (s.lettingGo l).magazine = s.magazine ∧ (s.lettingGo l).cell = s.cell ∧ (s.lettingGo l).elevator = s.elevator
      ∧ (s.lettingGo l).insertion = { s.insertion with insertion := none }
      ∧ (s.lettingGo l).gripper = { s.gripper with claim := none, wait := none } := by
  simp [State.lettingGo, State.closeInsertion, State.emptyClaim]

/-- The settle wait that a seated insertion without a capture begins (R140). -/
def State.settling (s : State) (l : Located) (k : Nat) : State :=
  { s.lettingGo l with insertion := { (s.lettingGo l).insertion with
      wait := some { board := l.id, first := k, height := l.board.height,
                     timer := Timer.load s.constants.seatSettle } } }

section
variable {s : State} {l : Located} {k : Nat} {o : OpenInsertion}

theorem State.letGo_disturbed (opened : s.insertion.insertion = some o) (disturbed : o.disturbed = true) :
    s.letGo l k = (s.lettingGo l).doubt l := by
  simp only [State.letGo, opened, Option.any_some, disturbed, if_true]
  rfl

theorem State.letGo_captured (opened : s.insertion.insertion = some o) (steady : o.disturbed = false) {c : Word24}
    {more : List Word24} (captures : s.elevator.captures = c :: more) :
    s.letGo l k = (s.lettingGo l).verify l k l.board.height c := by
  simp only [State.letGo, opened, Option.any_some, steady, captures, Bool.false_eq_true, if_false]
  rfl

theorem State.letGo_settles (opened : s.insertion.insertion = some o) (steady : o.disturbed = false)
    (none_ : s.elevator.captures = []) : s.letGo l k = s.settling l k := by
  simp only [State.letGo, opened, Option.any_some, steady, none_, Bool.false_eq_true, if_false]
  rfl

/-- However the insertion is judged, insertion control keeps all but the open insertion and the wait (R140). -/
theorem State.letGo_cases (opened : s.insertion.insertion = some o) :
    (s.letGo l k = (s.lettingGo l).doubt l ∧ o.disturbed = true)
      ∨ (∃ c more, s.letGo l k = (s.lettingGo l).verify l k l.board.height c ∧ o.disturbed = false
          ∧ s.elevator.captures = c :: more)
      ∨ (s.letGo l k = s.settling l k ∧ o.disturbed = false ∧ s.elevator.captures = []) := by
  cases disturbed : o.disturbed with
  | true => exact .inl ⟨State.letGo_disturbed opened disturbed, rfl⟩
  | false =>
      cases captures : s.elevator.captures with
      | cons c more => exact .inr (.inl ⟨c, more, State.letGo_captured opened disturbed captures, rfl, rfl⟩)
      | nil => exact .inr (.inr ⟨State.letGo_settles opened disturbed captures, rfl, rfl⟩)

theorem State.letGo_blocks (opened : s.insertion.insertion = some o) :
    (s.letGo l k).gripper = { s.gripper with claim := none, wait := none }
      ∧ (s.letGo l k).insertion.insertion = none ∧ (s.letGo l k).insertion.permission = s.insertion.permission
      ∧ (s.letGo l k).insertion.confirmation = s.insertion.confirmation := by
  rcases s.letGo_cases (l := l) (k := k) opened with ⟨eq, -⟩ | ⟨c, more, eq, -⟩ | ⟨eq, -⟩
  · rw [eq]; simp
  · rw [eq]; simp
  · rw [eq]; simp [State.settling]

end

/-! ### The answer -/

theorem State.letGoBody_of {t : State} {l : Located} {board : Board}
    (after : t.boardAt l.record l.index = some board) :
    t.letGoBody l = n8 board.state.code ++ (if board.state = .stowed then
      ((t.magazine.session.bind fun u => u.manifest.getLast?).map fun e => n8 e.first).getD []
      else flag t.insertion.wait.isNone) := by
  obtain ⟨m, located, rfl⟩ := Option.map_eq_some_iff.mp after
  simp only [State.letGoBody, located]

/-- The answer for a stowed board names the slot that its manifest entry does (R140; log entry 18). -/
theorem State.letGoBody_stowed {t : State} {l : Located} {u : Session} {board : Board} {entries : List ManifestEntry}
    {e : ManifestEntry} (after : t.boardAt l.record l.index = some board) (stowed : board.state = .stowed)
    (loaded : t.magazine.session = some u) (manifest : u.manifest = entries ++ [e]) :
    t.letGoBody l = [8, BitVec.ofNat 8 e.first] := by
  rw [State.letGoBody_of after, if_pos stowed, loaded, Option.bind_some, manifest]
  simp [stowed, BoardState.code, n8]

theorem StowedAt.body {s t : State} {l : Located} {m : Session} {j : Nat} (stowed : StowedAt s t l m j) :
    t.letGoBody l = [8, BitVec.ofNat 8 j] := by
  obtain ⟨⟨u, loaded, manifest, -⟩, ⟨review, board, -⟩, -⟩ := stowed
  exact State.letGoBody_stowed board rfl loaded manifest

theorem StowedElsewhere.body {s t : State} {l : Located} {m : Session} {j : Nat}
    (stowed : StowedElsewhere s t l m j) : t.letGoBody l = [8, BitVec.ofNat 8 j] := by
  obtain ⟨⟨u, loaded, manifest, -⟩, ⟨review, board⟩, -⟩ := stowed
  exact State.letGoBody_stowed board rfl loaded manifest

/-- A stowing speaks of the board by its name and its place, whatever its state was. -/
theorem StowedAt.of_state {s t : State} {l : Located} {m : Session} {j : Nat}
    (stowed : StowedAt s t { l with board := l.board.verifying } m j) : StowedAt s t l m j := stowed

theorem StowedElsewhere.of_state {s t : State} {l : Located} {m : Session} {j : Nat}
    (stowed : StowedElsewhere s t { l with board := l.board.verifying } m j) : StowedElsewhere s t l m j := stowed

theorem insertEndsCloseTheInsertion : Says.InsertEndsCloseTheInsertion := by
  intro s p serial b l reaches named claim aborted seated
  obtain ⟨-, -, name, stands⟩ := State.locateId_eq_some named
  have found : s.locateId l.id = some l := by rwa [name]
  refine ⟨fun other => ⟨refuses_of_handler reaches rfl ((State.onClaim_claimed named claim _).trans ?aborted),
      refuses_of_handler reaches rfl ((State.onClaim_claimed named claim _).trans ?seated)⟩,
    fun k m x inserting destination loaded slot =>
      ⟨fun quiet => abortedInsertionCounts reaches named claim inserting destination loaded slot quiet,
        fun o opened => ?letGo⟩⟩
  case aborted =>
    split
    next is _ => exact absurd is other
    next => rfl
  case seated =>
    split
    next is _ => exact absurd is other
    next => rfl
  case letGo =>
    intro verifying
    obtain ⟨gripper, closed, permission, confirmation⟩ := s.letGo_blocks (l := l) (k := k) opened
    have changed := s.lettingGo_changed l
    have elsewhere : BoardsElsewhere s (s.lettingGo l) l.record l.index := (changed.boards stands).2
    obtain ⟨q, there, serial_, -⟩ := changed.locate (State.locate_of_id found)
    have loaded' : (s.lettingGo l).magazine.session = some m := by simpa using loaded
    have fault (j : FaultKind) : (s.lettingGo l).fault j = s.fault j := State.fault_of_faults (by simp) j
    have kept : (commit s (s.letGo l k)).insertion = (s.letGo l k).insertion := by simp
    have tracker := (commit_gripper_noWait (before := s) (after := s.letGo l k) (by rw [gripper])).trans gripper
    refine ⟨commit s (s.letGo l k), (commit s (s.letGo l k)).letGoBody l, ?answer, by rw [tracker], by rw [tracker],
      by rw [tracker], by rw [kept]; exact closed, by simp, by rw [kept]; exact permission,
      by rw [kept]; exact confirmation, fun disturbed => ?disturbed, fun steady none_ => ?settles,
      fun c more steady captures => ?captured⟩
    case answer =>
      refine answers_of_handler reaches rfl ((State.onClaim_claimed named claim _).trans ?_)
      simp only [inserting, destination]
      rfl
    case disturbed =>
      rw [State.letGo_disturbed opened disturbed]
      exact ⟨by simp, ((State.doubt_inDoubt there serial_ loaded').of_start elsewhere (fault _)).commit s⟩
    case settles =>
      rw [State.letGo_settles opened steady none_]
      have settled : s.BoardChanged (s.settling l k) l.record l.index Board.verifying := changed.same rfl
      obtain ⟨board, others⟩ := (settled.commit s).boards stands
      have wait : (commit s (s.settling l k)).insertion.wait = some { board := l.id, first := k, height := l.board.height, timer := Timer.load s.constants.seatSettle } := by
        simp [State.settling]
      refine ⟨?_, wait, board, others, (commit_magazine (by simp [State.settling])).trans (by simp [State.settling])⟩
      rw [State.letGoBody_of board, wait]
      rfl
    case captured =>
      rw [State.letGo_captured opened steady captures]
      obtain ⟨doubt, at_, other⟩ := State.verify_judges (v := s.lettingGo l) (m := m) k c there serial_ rfl loaded'
      have homed : (s.lettingGo l).elevator.homed = s.elevator.homed := by simp
      rw [homed] at doubt at_ other
      refine ⟨by simp, fun isHomed near => ?_, fun lost => ((doubt lost).of_start elsewhere (fault _)).commit s,
        fun j isHomed near differs => ⟨fun taken => ?_, fun empty => ?_⟩⟩
      · have stowed := (((at_ isHomed near).of_start elsewhere).commit s).of_state
        exact ⟨stowed.body, stowed⟩
      · exact (((other j isHomed near differs).1 taken).of_start elsewhere (fault _)).commit s
      · have stowed := ((((other j isHomed near differs).2 empty).of_start elsewhere (fault _)).commit s).of_state
        exact ⟨stowed.body, stowed⟩

/-- Settles O54, by INSERT_BEGIN and the two forms of INSERT_END. -/
theorem insertionsOpenAndClose : Obligations.InsertionsOpenAndClose :=
  ⟨insertBeginOpensAnInsertion, insertEndsCloseTheInsertion⟩

end Sys2Proof.Machine

/-! PROOFS. PANEL_ABORT and PANEL_RESULT (R17, R18). -/

namespace Sys2Proof.Machine

open Sys2Proof

/-! ### The loop at the end of a change -/

/-- While the same panel is served the loop keeps its rpm (R24). -/
theorem commit_spindle_of_served {before after : State} (served : after.servedPanel = before.servedPanel) :
    (commit before after).spindle = after.spindle := by
  have same : (before.refreshWait (before.refreshFull after)).servedPanel = before.servedPanel :=
    (State.servedPanel_of_panels (by simp)).trans served
  simp [commit, State.handOver, same]

/-! ### The claim of an aborted panel (R18, R47) -/

theorem State.endClaimOf_of_claimed {s : State} {i : Fin 4} {l : Located} (claimed : s.claimed = some l)
    (record : l.record = i) (attached : l.board.state.attached = true) :
    s.endClaimOf i = s.emptyClaim.post .pick .claimEnded := by
  simp [State.endClaimOf, claimed, record, attached]

theorem State.endClaimOf_of_other {s : State} {i : Fin 4}
    (other : ∀ l, s.claimed = some l → ¬ (l.record = i ∧ l.board.state.attached = true)) : s.endClaimOf i = s := by
  unfold State.endClaimOf
  split
  next l claimed => exact if_neg (other l claimed)
  next => rfl

@[simp] theorem State.endClaimOf_queue (s : State) (i : Fin 4) :
    (s.endClaimOf i).gripper.queue = s.gripper.queue := by
  unfold State.endClaimOf
  split
  · split <;> simp [State.emptyClaim]
  · rfl

/-! ### The record of an aborted panel -/

/-- An aborted panel's record, re-examined (R16, R18). -/
def Panel.aborted (p : Panel) : Panel := { p.abandon with state := p.abandon.settled }

/-- No board of an aborted panel is attached. -/
theorem Panel.abandon_unattached (p : Panel) : (p.abandon.boards.any fun x => x.state.attached) = false := by
  simp only [Panel.abandon, List.any_map, List.any_eq_false, Function.comp_apply, Bool.not_eq_true]
  intro board _
  split
  · rfl
  · simpa using ‹¬ board.state.attached = true›

theorem Panel.aborted_state {p : Panel} (active : p.state.isActive = true) :
    p.aborted.state = if p.aborted.boards.all (fun b => b.state.terminal) then .finished else .draining := by
  have settled : p.aborted.state = _ := Panel.settled_eq p.abandon
  have before : p.abandon.state = p.state := rfl
  rw [settled, before]
  cases state : p.state with
  | active f => simp [Panel.abandon_unattached, Panel.aborted]
  | draining | finished => simp [state, PanelState.isActive] at active

/-- What an abort does before it replaces the record: the claim ended, the grants revoked, the boards out of the queue. -/
def State.cleared (s : State) (i : Fin 4) (panel : Panel) : State :=
  let t := (s.endClaimOf i).revoke fun g => g.serial == panel.serial
  { t with gripper := { t.gripper with queue := t.gripper.queue.filter (·.serial != panel.serial) } }

theorem State.abortPanel_eq {s : State} {i : Fin 4} {panel : Panel} (record : s.panels.records[i] = some panel) :
    s.abortPanel i panel = (s.cleared i panel).putRecord i panel panel.aborted :=
  State.reexamine_modifyPanel (s := s.cleared i panel)
    (by simpa [State.cleared] using record) Panel.abandon rfl

theorem State.cleared_claim (s : State) (i : Fin 4) (panel : Panel) :
    (s.cleared i panel).gripper.claim = (s.endClaimOf i).gripper.claim := by
  simp [State.cleared]

theorem State.cleared_posts (s : State) (i : Fin 4) (panel : Panel) :
    (s.endClaimOf i).Posts (s.cleared i panel) :=
  ((State.Posts.refl _).revoke _).same rfl

@[simp] theorem State.putRecord_frame (s : State) (i : Fin 4) (p q : Panel) :
    (s.putRecord i p q).recipes = s.recipes ∧ (s.putRecord i p q).scheduler = s.scheduler
      ∧ (s.putRecord i p q).gripper = s.gripper ∧ (s.putRecord i p q).bit = s.bit
      ∧ (s.putRecord i p q).spindle = s.spindle ∧ (s.putRecord i p q).magazine = s.magazine
      ∧ (s.putRecord i p q).elevator = s.elevator ∧ (s.putRecord i p q).insertion = s.insertion
      ∧ (s.putRecord i p q).cell = s.cell ∧ (s.putRecord i p q).constants = s.constants
      ∧ (s.putRecord i p q).lines = s.lines ∧ (s.putRecord i p q).starting = s.starting
      ∧ (s.putRecord i p q).pending = s.pending ∧ (s.putRecord i p q).freeIndex = s.freeIndex := by
  unfold State.putRecord
  split <;> simp

theorem State.putRecord_posts (s : State) (i : Fin 4) (p q : Panel) : s.Posts (s.putRecord i p q) := by
  unfold State.putRecord
  split
  · exact (((State.Posts.refl s).same (by simp)).post .cell .panelDone).queueSave .bit
  · exact (State.Posts.refl s).same (by simp)

theorem panelAbortAbandonsTheAttachedBoards : Says.PanelAbortAbandonsTheAttachedBoards := by
  intro s p sel reaches
  refine ⟨fun none_ => refuses_of_handler reaches rfl (by simp [none_]), fun k panel named record =>
    ⟨fun idle => refuses_of_handler reaches rfl (by simp [named, record, idle]), fun active => ?_⟩⟩
  have change := State.abortPanel_eq record
  obtain ⟨finishes, -, -⟩ := (s.cleared k panel).putRecord_follows k panel panel.aborted
  have told : (s.cleared k panel).Posts (commit s (s.abortPanel k panel)) := by
    rw [change]
    exact ((s.cleared k panel).putRecord_posts k panel panel.aborted).commit s
  have running : panel.state ≠ .finished := by
    rintro finished
    simp [finished, PanelState.isActive] at active
  have panels : (commit s (s.abortPanel k panel)).panels
      = { s.panels with records := s.panels.records.set k (some panel.aborted) } := by
    simp [change, State.cleared]
  refine ⟨commit s (s.abortPanel k panel), panel.aborted, ?_, panels, rfl, Panel.aborted_state active, rfl, rfl, rfl, rfl,
    rfl, rfl, ?_, ?_, ?_, ?_, ?_, ?_, ?_⟩
  · refine answers_of_handler reaches rfl ?_
    simp only [named, record, active, if_true, accept, conclude, panels]
    simp [n8]
  · simp [change, State.cleared, State.revoke_scheduler]
  · rintro ⟨g, inWindow, serial, live⟩
    refine told.keeps ?_
    have revoked := State.revoke_posts (s := s.endClaimOf k) (test := fun g => g.serial == panel.serial)
      (by simpa using inWindow) (by simpa using serial) live
    simpa [State.cleared, State.isPending, State.port] using revoked
  · rw [commit_queue, change]
    simp [State.cleared]
  · intro l claimed own attached
    have ended := State.endClaimOf_of_claimed claimed own attached
    refine ⟨?_, told.keeps ?_⟩
    · simp [change, State.cleared_claim, ended, State.emptyClaim]
    · exact (ended ▸ s.cleared_posts k panel).posted (by decide)
  · intro other
    simp [change, State.cleared_claim, State.endClaimOf_of_other other]
  · intro finished
    exact commit_keepsPending s _ _ _ (change ▸ (finishes finished running).1)
  · have magazine : (commit s (s.abortPanel k panel)).magazine = s.magazine := by
      rw [commit_magazine] <;> simp [change, State.cleared]
    simp only [commit_frame, magazine]
    simp [change, State.cleared]

/-! ### PANEL_RESULT -/

/-- The record that carries a serial. -/
theorem State.recordOfSerial_some {s : State} {serial : Nat} {i : Fin 4} {panel : Panel}
    (named : s.recordOfSerial serial = some i) (record : s.panels.records[i] = some panel) : panel.serial = serial := by
  unfold State.recordOfSerial State.findRecord at named
  have carries := List.find?_some named
  simpa [record] using carries

theorem State.freeRecord_panels (s : State) (i : Fin 4) :
    (s.freeRecord i).panels = { records := s.panels.records.set i none
                                startOrder := s.panels.startOrder.filter (· != i) } := by
  simp [State.freeRecord, State.setRecord]

/-- A FINISHED record is not the served one, so its release leaves the served panel (R17, R23). -/
theorem State.freeRecord_served {s : State} {i : Fin 4} {panel : Panel} (record : s.panels.records[i] = some panel)
    (finished : panel.state = .finished) : (s.freeRecord i).servedPanel = s.servedPanel := by
  rw [State.servedPanel, State.freeRecord_panels, List.find?_filter]
  congr 1
  funext j
  by_cases own : j = i
  · subst own
    simp [record, Panel.servable, finished, PanelState.isActive]
  · have other : (s.panels.records.set i none)[j] = s.panels.records[j] := by
      simpa [own, State.setRecord] using s.setRecord_records i j none
    simp only [other]
    simp [own]

theorem panelResultFreesTheRecord : Says.PanelResultFreesTheRecord := by
  intro s p serial reaches
  refine ⟨fun none_ => refuses_of_handler reaches rfl (by simp [none_]), fun k panel named record => ?_⟩
  have own := State.recordOfSerial_some named record
  have inWindow : (s.scheduler.window.any fun g => g.serial == panel.serial) = true
      ↔ ∃ g ∈ s.scheduler.window, g.serial = serial.toNat := by simp [own]
  refine ⟨fun busy => refuses_of_handler reaches rfl ?_, fun finished quiet =>
    ⟨commit s (s.freeRecord k), ?_, ?_, ?_, ?_, ?_, ?_⟩⟩
  · simp only [named, Option.bind_some, record, Option.map_some, inWindow, busy, if_true]
  · refine answers_of_handler reaches rfl ?_
    have free : ¬ (panel.state ≠ .finished ∨ ∃ g ∈ s.scheduler.window, g.serial = serial.toNat) := by
      rintro (running | ⟨g, inside, carries⟩)
      · exact running finished
      · exact quiet g inside carries
    simp only [named, Option.bind_some, record, Option.map_some, inWindow, free, if_false, accept, conclude]
    simp [Panel.countBytes, n32, own]
  · rw [(commit_frame _ _).2.1, State.freeRecord_panels]
  · simp [State.freeRecord]
  · rw [commit_queue]
    simp [State.freeRecord]
  · rw [commit_store]
    exact State.storeBegin_store (by simp [State.freeRecord]) (by simp [State.freeRecord]) (by simp [State.freeRecord])
      (by simp [State.freeRecord])
  · have magazine : (commit s (s.freeRecord k)).magazine = s.magazine := by
      rw [commit_magazine] <;> simp [State.freeRecord]
    simp only [commit_frame, magazine, commit_spindle_of_served (State.freeRecord_served record finished)]
    simp [State.freeRecord]

/-- Settles O27, by what the two requests make of the record, of the claim and of the window. -/
theorem panelsEndByAbortAndResult : Obligations.PanelsEndByAbortAndResult :=
  ⟨panelAbortAbandonsTheAttachedBoards, panelResultFreesTheRecord⟩

end Sys2Proof.Machine

/-! PROOFS. PANEL_START (R11 to R13). -/

namespace Sys2Proof.Machine

open Sys2Proof

/-! ### The lowest record of its kind -/

theorem find?_allRecords {test : Fin 4 → Bool} {n : Fin 4} (passes : test n = true)
    (below : ∀ m : Fin 4, m < n → test m = false) : allRecords.find? test = some n := by
  have place : ∀ n : Fin 4, allRecords = allRecords.take n ++ n :: allRecords.drop (n + 1) := by decide
  have ahead : ∀ n m : Fin 4, m ∈ allRecords.take n → m < n := by decide
  exact List.find?_eq_some_iff_append.mpr
    ⟨passes, _, _, place n, fun m inside => by simp [below m (ahead n m inside)]⟩

theorem find?_allRecords_none {test : Fin 4 → Bool} (fails : ∀ n, test n = false) : allRecords.find? test = none := by
  simp [List.find?_eq_none, fails]

/-! ### The new panel -/

/-- The record of a panel just started (R11, R12). -/
def Panel.started (f : Fixture) (k : Fin 4) (serial : Nat) (boards : List Board) : Panel :=
  { state := .active f, recipe := k, serial := serial, boards := boards, stowed := 0, rejected := 0, lost := 0,
    abandoned := 0 }

/-- The names of the boards of a new panel that hang from the start (R12). -/
def hangingIds (serial : Nat) (boards : List Board) : List BoardId :=
  (hangingBoards boards).map fun b => { serial := serial, board := b }

theorem State.startPanel_blocks (s : State) (n : Fin 4) (f : Fixture) (k : Fin 4) (serial : Nat) (boards : List Board) :
    let t := s.startPanel n f k serial boards
    t.panels = { records := s.panels.records.set n (some (Panel.started f k serial boards))
                 startOrder := s.panels.startOrder ++ [n] }
      ∧ t.gripper = { s.gripper with queue := s.gripper.queue ++ hangingIds serial boards }
      ∧ { t with panels := s.panels, gripper := s.gripper, ports := s.ports } = s := by
  simp [State.startPanel, State.setRecord, Panel.started, hangingIds]

theorem State.startPanel_posts (s : State) (n : Fin 4) (f : Fixture) (k : Fin 4) (serial : Nat) {boards : List Board}
    (hanging : hangingIds serial boards ≠ []) :
    (s.startPanel n f k serial boards).isPending .pick .boardHanging = true := by
  have some_ : (!(hangingIds serial boards).isEmpty) = true := by simpa using hanging
  have posts : s.startPanel n f k serial boards
      = State.postIf { s with panels := { records := s.panels.records.set n (some (Panel.started f k serial boards))
                                          startOrder := s.panels.startOrder ++ [n] }
                              gripper := { s.gripper with queue := s.gripper.queue ++ hangingIds serial boards } }
          (!(hangingIds serial boards).isEmpty) .pick .boardHanging := rfl
  rw [posts, State.postIf, if_pos some_]
  exact State.isPending_post _ (by decide)

theorem fixtureOf_none {b : Byte} (other : b ≠ 1 ∧ b ≠ 2) : fixtureOf b = none := by
  rw [fixtureOf, if_neg other.1, if_neg other.2]

theorem fixtureOf_some {b : Byte} {f : Fixture} (named : b = match f with | .a => 1 | .b => 2) :
    fixtureOf b = some f := by
  cases f <;> subst named <;> rfl

/-- A frame of PANEL_START that fits reaches the handler of its fixture and slot. -/
theorem exec_panelStart (p : Port) (fixture slot : Byte) (serial : Word32) {xouts : List Byte}
    (fits : xouts.length ≤ 24) (s : State) :
    exec (.panelStart p fixture slot serial xouts) s = .next (s.request p 22 fun s =>
      match fixtureOf fixture, fin4 slot.toNat with
      | some f, some i => s.panelStart f i serial.toNat (xouts.map (·.toNat))
      | some _, none => refuse s .outOfRange
      | none, _ => refuse s .outOfRange) :=
  if_neg (Nat.not_lt.mpr fits)

/-- What the end of the change leaves of a panel just started (R11, R12). -/
theorem State.startPanel_follows (s : State) (n : Fin 4) (f : Fixture) (k : Fin 4) (serial : Nat) (boards : List Board) :
    let t := commit s (s.startPanel n f k serial boards)
    t.panels.records = s.panels.records.set n (some (Panel.started f k serial boards))
      ∧ t.panels.startOrder = s.panels.startOrder ++ [n]
      ∧ t.gripper.queue = s.gripper.queue ++ hangingIds serial boards ∧ t.gripper.claim = s.gripper.claim
      ∧ (hangingIds serial boards ≠ [] → t.isPending .pick .boardHanging = true)
      ∧ t.store = s.storeBegin.store
      ∧ { t with panels := s.panels, gripper := s.gripper, spindle := s.spindle, store := s.store,
                 ports := s.ports } = s := by
  obtain ⟨panels, gripper, -⟩ := s.startPanel_blocks n f k serial boards
  have magazine : (commit s (s.startPanel n f k serial boards)).magazine = s.magazine := by
    rw [commit_magazine] <;> simp [State.startPanel]
  refine ⟨by simp [panels], by simp [panels], by simp [commit_queue, gripper], by simp [gripper],
    fun hanging => commit_keepsPending _ _ _ _ (s.startPanel_posts n f k serial hanging), ?_, ?_⟩
  · rw [commit_store]
    exact State.storeBegin_store (by simp [State.startPanel]) (by simp [State.startPanel]) (by simp [State.startPanel])
      (by simp [State.startPanel])
  · simp only [commit_frame, magazine]
    simp [State.startPanel]

/-- PANEL_START on a free fixture with a free serial and a VALID recipe: the checks that are left (R11). -/
theorem State.panelStart_valid {s : State} {f : Fixture} {k : Fin 4} {serial : Nat} {r : Recipe} (xouts : List Nat)
    (configured : s.cell.state ≠ .unconfigured) (freeFixture : s.recordOnFixture f = none)
    (freeSerial : s.recordOfSerial serial = none) (valid : s.recipes[k] = .valid r) :
    s.panelStart f k serial xouts
      = if (xouts.any fun x => decide (x < 1 ∨ r.header.boardCount < x)) = true then refuse s .outOfRange
        else match allRecords.find? fun i => s.panels.records[i].isNone with
          | none => refuse s .tableFull
          | some i =>
              if s.scheduler.hangLimit < s.hangCommitted + (hangingBoards (r.newBoards xouts)).length then
                refuse s .hangFull
              else accept s (s.startPanel i f k serial (r.newBoards xouts)) fun t =>
                n8 (number4 i) ++ n32 (t.startPosition i) := by
  unfold State.panelStart
  rw [if_neg configured, freeFixture, freeSerial, valid]
  rfl

theorem panelStartChecksAndStarts : Says.PanelStartChecksAndStarts := by
  intro s p fixture slot serial xouts reaches fits
  have runs := exec_panelStart p fixture slot serial fits s
  refine ⟨fun outside => refuses_of_handler reaches runs ?_, fun f k fixtureNamed slotNamed => ?_⟩
  · rcases outside with other | outside
    · simp only [fixtureOf_none other]
    · simp only [fin4_outside outside]
      split <;> simp_all
  have handler (x : State × Reply) (answered : s.panelStart f k serial.toNat (xouts.map (·.toNat)) = x) :
      (match fixtureOf fixture, fin4 slot.toNat with
        | some f, some i => s.panelStart f i serial.toNat (xouts.map (·.toNat))
        | some _, none => refuse s .outOfRange
        | none, _ => refuse s .outOfRange) = x := by
    rw [fixtureOf_some fixtureNamed, fin4_of_eq_succ slotNamed]
    exact answered
  refine ⟨fun unconfigured => refuses_of_handler reaches runs (handler _ (if_pos unconfigured)), fun configured =>
    ⟨fun taken => refuses_of_handler reaches runs (handler _ ?_), fun freeFixture freeSerial =>
      ⟨fun invalid => refuses_of_handler reaches runs (handler _ ?_), fun r valid => ?_⟩⟩⟩
  · rcases taken with fixture | serial <;> simp [State.panelStart, configured, *]
  · cases slot : s.recipes[k] with
    | valid r => exact absurd slot (invalid r)
    | empty | opened _ => simp [State.panelStart, configured, freeFixture, freeSerial, slot]
  have judged := State.panelStart_valid (serial := serial.toNat) (xouts.map (·.toNat)) configured freeFixture freeSerial valid
  have outside : ((xouts.map (·.toNat)).any fun x => decide (x < 1 ∨ r.header.boardCount < x)) = true
      ↔ ∃ x ∈ xouts, x.toNat < 1 ∨ r.header.boardCount < x.toNat := by simp
  refine ⟨fun bad => refuses_of_handler reaches runs (handler _ (judged.trans (if_pos (outside.mpr bad)))), fun inside => ?_⟩
  have fine : ¬ ((xouts.map (·.toNat)).any fun x => decide (x < 1 ∨ r.header.boardCount < x)) = true := by
    rw [outside]
    rintro ⟨x, listed, bad⟩
    have := inside x listed
    omega
  rw [if_neg fine] at judged
  refine ⟨fun full => refuses_of_handler reaches runs (handler _ ?_), fun n free lowest =>
    ⟨fun tooMany => refuses_of_handler reaches runs (handler _ ?_), fun room =>
      ⟨commit s (s.startPanel n f k serial.toNat (r.newBoards (xouts.map (·.toNat)))),
        answers_of_handler reaches runs (handler _ ?_), ?_⟩⟩⟩
  · rw [judged, find?_allRecords_none fun n => by simpa [Option.isSome_iff_ne_none] using full n]
  all_goals
    have place : allRecords.find? (fun i => s.panels.records[i].isNone) = some n :=
      find?_allRecords (by simp [free]) fun m below => by simpa [Option.isSome_iff_ne_none] using lowest m below
  · rw [judged, place]
    exact if_pos (by simpa using tooMany)
  · rw [judged, place]
    refine (if_neg (by simpa using room)).trans ?_
    simp [accept, conclude, State.startPosition, n8, number4]
  · obtain ⟨records, order, queue, claim, posts, store, rest⟩ :=
      State.startPanel_follows s n f k serial.toNat (r.newBoards (xouts.map (·.toNat)))
    exact ⟨records, order, queue, claim, posts, store, rest⟩

theorem count_map {α : Type} (l : List α) (test : α → Bool) (v : Bool) :
    (l.map test).count v = (l.filter fun x => test x == v).length := by
  rw [List.count_eq_countP, List.countP_map, List.countP_eq_length_filter]
  rfl

theorem newBoardRecord : Says.NewBoardRecord := by
  intro d item xout
  have role (t : Nat) : ((item.tab t).any (·.role == 1)) = (((item.tab t).map (·.role)) == some 1) := by
    cases item.tab t <;> rfl
  simp only [newBoard, role, count_map, beq_false, beq_true]

/-- Settles O25, by the checks in their order, what starting the panel changes, and the roles of a board's tabs. -/
theorem panelStartMakesARecord : Obligations.PanelStartMakesARecord := ⟨panelStartChecksAndStarts, newBoardRecord⟩

end Sys2Proof.Machine

/-! PROOFS. The served panel and the rpm that its recipe gives the spindle loop (R23, R24, R81, R88). -/

namespace Sys2Proof.Machine

open Sys2Proof

/-! ### The rpm the loop is set to -/

theorem Spindle.SameRpm.trans {a b c : Spindle} (first : a.SameRpm b) (second : b.SameRpm c) : a.SameRpm c :=
  ⟨second.1.trans first.1, second.2.trans first.2⟩

theorem Spindle.SameRpm.commanded {a b : Spindle} (same : a.SameRpm b) : b.commanded = a.commanded := by
  simp [Spindle.commanded, same.1, same.2]

theorem State.stopSpindle_rpm (s : State) : s.spindle.SameRpm s.stopSpindle.spindle := by
  unfold State.stopSpindle
  split
  · simp [Spindle.SameRpm]
  · exact ⟨rfl, rfl⟩

theorem State.start_rpm (s : State) : s.spindle.SameRpm s.start.spindle := by
  unfold State.start
  split <;> exact ⟨rfl, rfl⟩

/-- No move touches the recipe rpm or the override. -/
theorem Moves.rpm {s t : State} (moves : Moves s t) : s.spindle.SameRpm t.spindle := by
  induction moves with
  | refl => exact ⟨rfl, rfl⟩
  | same _ core ih =>
      simp only [State.core, Prod.mk.injEq] at core
      rw [core.2.1]
      exact ih
  | refault _ faults last ih => simpa [State.setFaults] using ih
  | holdMember _ p v ih => simpa using ih
  | @bringToRest t _ st _ ih =>
      have stopped := State.stopSpindle_rpm { t with cell := { t.cell with state := st, parkTimer := none } }.revokeAll
      exact ih.trans (by simpa [State.broughtToRest] using stopped)
  | revoke _ test ih => simpa using ih
  | dropOldest _ ih => simpa using ih
  | grant _ g _ _ ih => exact ih
  | @work t _ ih => split <;> simpa using ih
  | start _ _ _ ih => exact ih.trans (State.start_rpm _)
  | run _ sp _ rpm ih => exact ih.trans rpm
  | halt _ sp _ rpm ih => exact ih.trans (by simpa using rpm)
  | configure _ c _ _ ih => exact ih

/-- A raise leaves the loop, or stops it (R91, R154). -/
theorem State.raise_spindle (s : State) (k : FaultKind) :
    (s.raise k).spindle = s.spindle ∨ (s.raise k).spindle.state ≠ .atSpeed := by
  by_cases parks : s.RaiseParks k
  · obtain ⟨_, _, _, stopped, _⟩ := State.raise_parks parks
    refine .inr fun atSpeed => ?_
    simpa [atSpeed, SpindleState.turning] using stopped.of_rest
  · exact .inl (State.raise_stays parks).2.1

theorem State.setCapacity_spindle (s : State) (n : Nat) :
    (s.setCapacity n).spindle = s.spindle ∨ (s.setCapacity n).spindle.state ≠ .atSpeed := by
  unfold State.setCapacity
  dsimp only
  split
  · split
    · exact .inl rfl
    · exact State.raise_spindle _ _
  · split
    · exact .inl (by simp)
    · exact .inl rfl

/-! ### A newly served panel -/

theorem State.servedPanel_some {s : State} {i : Fin 4} (served : s.servedPanel = some i) :
    ∃ older newer panel, s.panels.startOrder = older ++ i :: newer ∧ s.panels.records[i] = some panel
      ∧ panel.servable = true
      ∧ ∀ j ∈ older, ∀ q, s.panels.records[j] = some q → q.servable = false := by
  unfold State.servedPanel at served
  obtain ⟨serves, older, newer, order, none_⟩ := List.find?_eq_some_iff_append.mp served
  obtain ⟨panel, record, servable⟩ : ∃ panel, s.panels.records[i] = some panel ∧ panel.servable = true := by
    simpa [Option.any_eq_true] using serves
  refine ⟨older, newer, panel, order, record, servable, fun j before q stands => ?_⟩
  simpa [stands] using none_ j before

theorem State.handOver_of_served {b s : State} {i : Fin 4} {panel : Panel} {r : Recipe}
    (changed : b.servedPanel ≠ s.servedPanel) (served : s.servedPanel = some i)
    (record : s.panels.records[i] = some panel) (recipe : s.recipeOf panel = some r) :
    b.handOver s = s.retarget r.header.rpm s.spindle.override := by
  have found : ((s.servedPanel.bind fun i => s.panels.records[i]).bind s.recipeOf) = some r := by
    simp only [served, Option.bind_some, record, recipe]
  unfold State.handOver
  rw [if_neg changed, found]

theorem State.handOver_of_none {b s : State} (none_ : s.servedPanel = none) : b.handOver s = s := by
  simp [State.handOver, none_]

/-- Another rpm to go to takes a loop AT_SPEED to RAMPING, and leaves its state else. -/
theorem State.retarget_loop (s : State) (rpm override : Nat) :
    let t := s.retarget rpm override
    t.spindle.duty = s.spindle.duty
      ∧ (s.spindle.state = .atSpeed →
          t.spindle.state = if t.spindle.commanded = s.spindle.commanded then .atSpeed else .ramping)
      ∧ (s.spindle.state ≠ .atSpeed → t.spindle.state = s.spindle.state) := by
  have rpmNow : (s.retarget rpm override).spindle.commanded
      = ({ s.spindle with recipeRpm := rpm, override := override } : Spindle).commanded :=
    Spindle.SameRpm.commanded (s.retarget_rpm rpm override)
  intro t
  rw [rpmNow]
  by_cases same : ({ s.spindle with recipeRpm := rpm, override := override } : Spindle).commanded = s.spindle.commanded
  · have now : t = { s with spindle := { s.spindle with recipeRpm := rpm, override := override } } := if_pos same
    rw [now, if_pos same]
    exact ⟨rfl, id, fun _ => rfl⟩
  · have now : t = _ := if_neg same
    rw [now, if_neg same]
    cases state : s.spindle.state <;> simp [state]

/-- A commanded rpm that a retarget changes leaves the loop out of AT_SPEED (R88). -/
theorem State.retarget_commanded {s : State} {rpm override : Nat}
    (changed : (s.retarget rpm override).spindle.commanded ≠ s.spindle.commanded) :
    (s.retarget rpm override).spindle.state ≠ .atSpeed := by
  obtain ⟨-, fast, slow⟩ := s.retarget_loop rpm override
  by_cases atSpeed : s.spindle.state = .atSpeed
  · rw [fast atSpeed, if_neg changed]
    decide
  · rw [slow atSpeed]
    exact atSpeed

theorem handOverRetargetsTheLoop : Says.HandOverRetargetsTheLoop := by
  intro b s
  refine ⟨fun i served => State.servedPanel_some served, fun same => if_pos same, State.handOver_of_none,
    fun i panel r changed served record recipe => ?_⟩
  rw [State.handOver_of_served changed served record recipe]
  obtain ⟨recipeRpm, override⟩ := s.retarget_rpm r.header.rpm s.spindle.override
  obtain ⟨duty, fast, slow⟩ := s.retarget_loop r.header.rpm s.spindle.override
  obtain ⟨sp, only, -⟩ := s.retarget_runs r.header.rpm s.spindle.override
  exact ⟨recipeRpm, override, duty, fast, slow, by rw [only]⟩

/-! ### Every command -/

/-- Before the end of its change a command leaves the recipe rpm; one that changes the commanded rpm, by the override,
leaves the panel table and takes the loop out of AT_SPEED. -/
theorem Changes.rpm {s u : State} {i : Instr} (change : Changes s i u) (up : s.starting = false) :
    u.spindle.recipeRpm = s.spindle.recipeRpm
      ∧ (u.spindle.commanded ≠ s.spindle.commanded → u.spindle.state ≠ .atSpeed ∧ u.panels = s.panels) := by
  rcases change.movesOrLimits up with moves | ⟨hang, speed, feed, bin, rfl⟩
  · exact ⟨moves.rpm.1, fun changed => absurd moves.rpm.commanded changed⟩
  · have limits : s.putLimits hang speed feed bin = (s.withLimits hang speed feed).setCapacity bin := rfl
    have rpm : (s.withLimits hang speed feed).spindle.SameRpm (s.putLimits hang speed feed bin).spindle :=
      State.setCapacity_rpm _ _
    refine ⟨rpm.1.trans (State.retarget_rpm _ _ _).1, fun changed => ⟨?_, by simp [limits, State.withLimits]⟩⟩
    rw [rpm.commanded] at changed
    rcases State.setCapacity_spindle (s.withLimits hang speed feed) bin with same | other
    · rw [limits, same]
      exact State.retarget_commanded changed
    · exact other

/-- What the end of a change makes of the loop's rpm (R24, R88). -/
theorem commit_rpm (s u : State) :
    (∀ k panel r, s.servedPanel ≠ u.servedPanel → u.servedPanel = some k → u.panels.records[k] = some panel →
      u.recipeOf panel = some r → (commit s u).spindle.recipeRpm = r.header.rpm)
    ∧ (u.servedPanel = none ∨ s.servedPanel = u.servedPanel → (commit s u).spindle = u.spindle)
    ∧ ((commit s u).spindle.commanded ≠ u.spindle.commanded → (commit s u).spindle.state ≠ .atSpeed) := by
  have handed : (commit s u).spindle = (s.handOver (s.refreshWait (s.refreshFull u))).spindle := by simp [commit]
  have panels : (s.refreshWait (s.refreshFull u)).panels = u.panels := by simp
  have recipes : (s.refreshWait (s.refreshFull u)).recipes = u.recipes := by simp
  have spindle : (s.refreshWait (s.refreshFull u)).spindle = u.spindle := by simp
  rw [handed]
  generalize s.refreshWait (s.refreshFull u) = v at panels recipes spindle
  have served : v.servedPanel = u.servedPanel := State.servedPanel_of_panels panels
  have recipeOf : v.recipeOf = u.recipeOf := by
    funext panel
    simp only [State.recipeOf, recipes]
  rw [← served, ← panels, ← spindle, ← recipeOf]
  refine ⟨fun k panel r changed serves record recipe => ?_, fun quiet => ?_, fun changed => ?_⟩
  · rw [State.handOver_of_served changed serves record recipe, (State.retarget_rpm _ _ _).1]
  · rcases quiet with none_ | same
    · rw [State.handOver_of_none none_]
    · rw [State.handOver, if_pos same]
  · unfold State.handOver at changed ⊢
    split at changed
    next => exact absurd rfl changed
    next other =>
      rw [if_neg other]
      split at changed
      next recipe => simpa only [recipe] using State.retarget_commanded changed
      next => exact absurd rfl changed

/-- What the statement says of a command that leads from s to t. -/
def HandsOver (s t : State) : Prop :=
  (∀ k panel r, s.servedPanel ≠ t.servedPanel → t.servedPanel = some k → t.panels.records[k] = some panel →
    t.recipeOf panel = some r → t.spindle.recipeRpm = r.header.rpm)
  ∧ (t.servedPanel = none ∨ s.servedPanel = t.servedPanel → t.spindle.recipeRpm = s.spindle.recipeRpm)
  ∧ (t.spindle.commanded ≠ s.spindle.commanded → t.spindle.state ≠ .atSpeed)

theorem HandsOver.of_same {s t : State} (panels : t.panels = s.panels) (spindle : t.spindle = s.spindle) :
    HandsOver s t := by
  refine ⟨fun _ _ _ changed => ?_, fun _ => by rw [spindle], fun changed => ?_⟩
  · exact absurd (State.servedPanel_of_panels panels).symm changed
  · exact absurd (by rw [spindle]) changed

/-- The end of a change hands over, with or without an answer after it. -/
theorem Changes.handsOver {s u t : State} {i : Instr} (change : Changes s i u) (up : s.starting = false)
    (panels : t.panels = u.panels) (recipes : t.recipes = u.recipes) (spindle : t.spindle = (commit s u).spindle) :
    HandsOver s t := by
  have recipeOf : t.recipeOf = u.recipeOf := by
    funext panel
    simp only [State.recipeOf, recipes]
  obtain ⟨takes, keeps, leaves⟩ := commit_rpm s u
  obtain ⟨recipeRpm, commanded⟩ := change.rpm up
  rw [HandsOver, State.servedPanel_of_panels panels, panels, recipeOf, spindle]
  refine ⟨takes, fun quiet => ?_, fun changed => ?_⟩
  · rw [keeps quiet, recipeRpm]
  · by_cases same : (commit s u).spindle.commanded = u.spindle.commanded
    · obtain ⟨state, panels⟩ := commanded (same ▸ changed)
      rw [commit_spindle s u panels]
      exact state
    · exact leaves same

theorem commandsHandOverTheServedRpm : Says.CommandsHandOverTheServedRpm := by
  intro i s t runs notReset
  have hands : HandsOver s t := by
    cases exec_ends runs with
    | unchanged => exact .of_same rfl rfl
    | port p v => exact .of_same rfl rfl
    | request p code r u own up change => exact change.handsOver up (by simp) (by simp) (by simp)
    | event u up change => exact change.handsOver up (by simp) (by simp) rfl
    | hardReset which => rcases which with rfl | rfl <;> cases notReset
    | completed lines which => subst which; cases notReset
    | softReset p code r which => subst which; cases notReset
  exact hands

/-- Settles O31, by what the end of a change hands to the loop. -/
theorem newlyServedPanelHandsOverItsRpm : Obligations.NewlyServedPanelHandsOverItsRpm :=
  ⟨handOverRetargetsTheLoop, commandsHandOverTheServedRpm⟩

end Sys2Proof.Machine

/-! PROOFS. The choice of a tab (R28, R29). -/

namespace Sys2Proof.Machine

open Sys2Proof

/-! ### Entries with their places -/

/-- The entries of a list numbered from 1 with their numbers. -/
theorem mem_zipIdx_one {α : Type} (l : List α) (x : α) (n : Nat) : (x, n) ∈ l.zipIdx 1 ↔ nth1 l n = some x := by
  rw [List.mk_mem_zipIdx_iff_le_and_getElem?_sub]
  cases n with
  | zero => simp [nth1]
  | succ n => simp [nth1]

theorem zipIdx_ascending {α : Type} (l : List α) (k : Nat) : (l.zipIdx k).Pairwise fun x y => x.2 < y.2 := by
  have numbers : ((l.zipIdx k).map Prod.snd).Pairwise (· < ·) := by
    rw [List.zipIdx_map_snd]
    exact List.pairwise_lt_range'
  exact List.pairwise_map.mp numbers

/-! ### The uncut tabs of a role -/

theorem State.uncutTabs_eq (s : State) (p : Panel) (b : Nat) (board : Board) (hold : Bool) :
    s.uncutTabs p b board hold
      = ((board.tabs.zipIdx 1).filter fun x => s.isHold p b x.2 == hold && x.1 == .uncut).map (·.2) := by
  unfold State.uncutTabs State.tabsOf
  induction board.tabs.zipIdx 1 with
  | nil => rfl
  | cons x rest ih =>
      obtain ⟨st, t⟩ := x
      cases role : s.isHold p b t == hold <;> cases uncut : st == .uncut <;> simp_all

theorem State.mem_uncutTabs (s : State) (p : Panel) (b : Nat) (board : Board) (hold : Bool) (t : Nat) :
    t ∈ s.uncutTabs p b board hold ↔ nth1 board.tabs t = some .uncut ∧ s.isHold p b t = hold := by
  rw [State.uncutTabs_eq]
  simp [mem_zipIdx_one, and_comm]

theorem State.uncutTabs_ascending (s : State) (p : Panel) (b : Nat) (board : Board) (hold : Bool) :
    (s.uncutTabs p b board hold).Pairwise (· < ·) := by
  rw [State.uncutTabs_eq, List.pairwise_map]
  exact (zipIdx_ascending board.tabs 1).filter _

/-- The first tab of an ascending list. -/
theorem head_le {l : List Nat} (ascending : l.Pairwise (· < ·)) {t u : Nat} (first : l.head? = some t) (inside : u ∈ l) :
    t ≤ u := by
  cases l with
  | nil => cases inside
  | cons x rest =>
      obtain rfl : x = t := by simpa using first
      rcases List.mem_cons.mp inside with rfl | later
      · exact Nat.le_refl _
      · exact Nat.le_of_lt (List.rel_of_pairwise_cons ascending later)

/-! ### The hold-tab pass (R28) -/

theorem State.holdPass_some {s : State} {p : Panel} {b t : Nat} (chosen : s.holdPass p = some (b, t)) :
    s.HoldEligible p b t ∧ ∀ u, s.HoldEligible p b u → t ≤ u := by
  unfold State.holdPass at chosen
  split at chosen
  next board c found =>
    have held := List.find?_some found
    have stands := (mem_zipIdx_one p.boards board c).mp (List.mem_of_find?_eq_some found)
    split at chosen
    · cases chosen
    next clear =>
      obtain ⟨u, first, same⟩ := Option.map_eq_some_iff.mp chosen
      obtain ⟨rfl, rfl⟩ := Prod.mk.inj same
      obtain ⟨uncut, role⟩ := (s.mem_uncutTabs p c board true u).mp (List.mem_of_head? first)
      refine ⟨⟨board, stands, by simpa using held, by simpa [Board.flagged] using clear, uncut, role⟩, ?_⟩
      rintro v ⟨other, there, -, -, uncut', role'⟩
      obtain rfl := Option.some.inj (there.symm.trans stands)
      exact head_le (s.uncutTabs_ascending p c other true) first ((s.mem_uncutTabs p c other true v).mpr ⟨uncut', role'⟩)
  next => cases chosen

/-- A panel has at most one HELD board. -/
def Panel.HeldOnce (p : Panel) : Prop :=
  ∀ b c x y, nth1 p.boards b = some x → nth1 p.boards c = some y → x.state = .held → y.state = .held → b = c

theorem Panel.heldOnce_of_claimSafe {s : State} (safe : ClaimSafe s) {i : Fin 4} {p : Panel}
    (record : s.panels.records[i] = some p) : p.HeldOnce := by
  intro b c x y first second held held'
  have claims {n : Nat} {board : Board} (stands : nth1 p.boards n = some board) (held : board.state = .held) :
      s.gripper.claim = some { serial := p.serial, board := n } := by
    have listed : ({ record := i, panel := p, index := n, board := board } : Located) ∈ s.boards := by
      rw [State.mem_boards]
      simp [State.locate, record, stands]
    exact (safe.1 _ listed).mp (by simp [held, BoardState.onClaim])
  have same := (claims first held).symm.trans (claims second held')
  simpa using same

theorem State.holdPass_none {s : State} {p : Panel} (once : p.HeldOnce) (none_ : s.holdPass p = none) (b t : Nat) :
    ¬ s.HoldEligible p b t := by
  rintro ⟨board, stands, held, clear, uncut, role⟩
  unfold State.holdPass at none_
  split at none_
  next x c found =>
    have held' := List.find?_some found
    have stands' := (mem_zipIdx_one p.boards x c).mp (List.mem_of_find?_eq_some found)
    obtain rfl := once b c board x stands stands' held (by simpa using held')
    obtain rfl := Option.some.inj (stands.symm.trans stands')
    have inside := (s.mem_uncutTabs p b board true t).mpr ⟨uncut, role⟩
    have unflagged : board.flagged = false := by simp [Board.flagged, clear]
    simp only [unflagged, Bool.false_eq_true, if_false, Option.map_eq_none_iff, List.head?_eq_none_iff] at none_
    simp [none_] at inside
  next missing =>
    have fails := List.find?_eq_none.mp missing (board, b) ((mem_zipIdx_one p.boards board b).mpr stands)
    simp [held] at fails

/-! ### The free-tab pass (R29) -/

/-- The first eligible free tab of a board is eligible, and none ahead of it is. -/
theorem State.eligibleFree_some {s : State} {p : Panel} {b t : Nat} {board : Board}
    (stands : nth1 p.boards b = some board) (first : s.eligibleFree p b board = some t) :
    s.FreeEligible p board.rank b t := by
  unfold State.eligibleFree at first
  split at first
  next open_ =>
    obtain ⟨cutting, clear⟩ : board.state = .cutting ∧ board.review = none := by
      simpa [Board.flagged] using open_
    have member := s.mem_uncutTabs p b board false
    have ascending := s.uncutTabs_ascending p b board false
    split at first
    · cases first
    next x only =>
      split at first
      next room =>
        obtain rfl := Option.some.inj first
        obtain ⟨uncut, role⟩ := (member x).mp (by simp [only])
        exact ⟨board, stands, rfl, cutting, clear, uncut, role, .inr room⟩
      · cases first
    next x y rest more =>
      obtain rfl := Option.some.inj first
      obtain ⟨uncut, role⟩ := (member x).mp (by simp [more])
      obtain ⟨uncut', role'⟩ := (member y).mp (by simp [more])
      rw [more] at ascending
      have later : x < y := List.rel_of_pairwise_cons ascending List.mem_cons_self
      exact ⟨board, stands, rfl, cutting, clear, uncut, role, .inl ⟨y, Nat.ne_of_gt later, uncut', role'⟩⟩
  · cases first

/-- A board with an eligible free tab has a first one, at that tab or before it. -/
theorem State.eligibleFree_of_eligible {s : State} {p : Panel} {r b t : Nat} (eligible : s.FreeEligible p r b t) :
    ∃ board u, nth1 p.boards b = some board ∧ board.rank = r ∧ s.eligibleFree p b board = some u ∧ u ≤ t := by
  obtain ⟨board, stands, rank, cutting, clear, uncut, role, room⟩ := eligible
  have inside := (s.mem_uncutTabs p b board false t).mpr ⟨uncut, role⟩
  have ascending := s.uncutTabs_ascending p b board false
  have open_ : (board.state == .cutting && !board.flagged) = true := by simp [cutting, Board.flagged, clear]
  have first (u : Nat) (head : (s.uncutTabs p b board false).head? = some u) : u ≤ t := head_le ascending head inside
  refine ⟨board, ?_⟩
  simp only [State.eligibleFree, open_, if_true]
  split
  next empty => simp [empty] at inside
  next x only =>
    have below : s.hangCommitted < s.scheduler.hangLimit := by
      rcases room with ⟨u, other, uncut', role'⟩ | room
      · have another := (s.mem_uncutTabs p b board false u).mpr ⟨uncut', role'⟩
        simp only [only, List.mem_singleton] at inside another
        exact absurd (another.trans inside.symm) other
      · exact room
    exact ⟨x, stands, rank, if_pos below, first x (by simp [only])⟩
  next x y rest more => exact ⟨x, stands, rank, rfl, first x (by simp [more])⟩

/-- The candidates of the free-tab pass, by rank, board and tab. -/
def State.freeCandidates (s : State) (p : Panel) : List (Nat × Nat × Nat) :=
  (p.boards.zipIdx 1).filterMap fun (board, b) => (s.eligibleFree p b board).map fun t => (board.rank, b, t)

theorem State.freePass_eq (s : State) (p : Panel) :
    s.freePass p = ((s.freeCandidates p).foldl earlier none).map (·.2) := rfl

theorem State.mem_freeCandidates (s : State) (p : Panel) (r b t : Nat) :
    (r, b, t) ∈ s.freeCandidates p
      ↔ ∃ board, nth1 p.boards b = some board ∧ board.rank = r ∧ s.eligibleFree p b board = some t := by
  simp only [State.freeCandidates, List.mem_filterMap, Prod.exists, mem_zipIdx_one, Option.map_eq_some_iff,
    Prod.mk.injEq]
  constructor
  · rintro ⟨board, c, stands, u, first, rfl, rfl, rfl⟩
    exact ⟨board, stands, rfl, first⟩
  · rintro ⟨board, stands, rfl, first⟩
    exact ⟨board, b, stands, t, first, rfl, rfl, rfl⟩

/-- The candidates stand in the order of their boards. -/
theorem State.freeCandidates_ascending (s : State) (p : Panel) :
    (s.freeCandidates p).Pairwise fun x y => x.2.1 < y.2.1 := by
  refine List.Pairwise.filterMap _ (fun x y before u hu v hv => ?_) (zipIdx_ascending p.boards 1)
  obtain ⟨t, -, rfl⟩ := Option.map_eq_some_iff.mp hu
  obtain ⟨t', -, rfl⟩ := Option.map_eq_some_iff.mp hv
  exact before

/-- Candidate x comes before y, or is of the same board. -/
def Precedes (x y : Nat × Nat × Nat) : Prop := x.1 < y.1 ∨ x.1 = y.1 ∧ x.2.1 ≤ y.2.1

/-- Folding `earlier` over candidates in the order of their boards gives the one that precedes all. -/
theorem foldl_earlier {l : List (Nat × Nat × Nat)} (ascending : l.Pairwise fun x y => x.2.1 < y.2.1)
    (best : Nat × Nat × Nat) (ahead : ∀ y ∈ l, best.2.1 < y.2.1) :
    ∃ c, l.foldl earlier (some best) = some c ∧ (c = best ∨ c ∈ l) ∧ Precedes c best ∧ ∀ y ∈ l, Precedes c y := by
  induction l generalizing best with
  | nil => exact ⟨best, rfl, .inl rfl, .inr ⟨rfl, Nat.le_refl _⟩, by simp⟩
  | cons x rest ih =>
      obtain ⟨before, later⟩ := List.pairwise_cons.mp ascending
      have behind : best.2.1 < x.2.1 := ahead x List.mem_cons_self
      by_cases lower : x.1 < best.1
      · obtain ⟨c, chosen, member, first, all⟩ := ih later x before
        refine ⟨c, by simpa [earlier, lower] using chosen, .inr ?_, ?_, ?_⟩
        · rcases member with rfl | member
          · exact List.mem_cons_self
          · exact List.mem_cons_of_mem _ member
        · rcases first with first | ⟨same, -⟩
          · exact .inl (by omega)
          · exact .inl (by omega)
        · exact List.forall_mem_cons.mpr ⟨first, all⟩
      · obtain ⟨c, chosen, member, first, all⟩ := ih later best fun y inside =>
          ahead y (List.mem_cons_of_mem _ inside)
        refine ⟨c, by simpa [earlier, lower] using chosen, member.imp_right (List.mem_cons_of_mem _), first, ?_⟩
        have next : Precedes c x := by
          rcases first with first | ⟨same, index⟩
          · exact .inl (by omega)
          · by_cases rank : c.1 = x.1
            · exact .inr ⟨rank, by omega⟩
            · exact .inl (by omega)
        exact List.forall_mem_cons.mpr ⟨next, all⟩

/-- The free-tab pass takes an eligible tab that precedes every other, and finds one if there is one. -/
theorem State.freePass_cases (s : State) (p : Panel) :
    (s.freePass p = none ∧ ∀ r b t, ¬ s.FreeEligible p r b t)
      ∨ ∃ r b t, s.freePass p = some (b, t) ∧ s.FreeEligible p r b t
        ∧ ∀ q c u, s.FreeEligible p q c u → r < q ∨ (r = q ∧ (b < c ∨ (b = c ∧ t ≤ u))) := by
  have listed {r b t : Nat} (eligible : s.FreeEligible p r b t) : ∃ u, (r, b, u) ∈ s.freeCandidates p ∧ u ≤ t := by
    obtain ⟨board, u, stands, rank, first, le⟩ := State.eligibleFree_of_eligible eligible
    exact ⟨u, (s.mem_freeCandidates p r b u).mpr ⟨board, stands, rank, first⟩, le⟩
  have ascending := s.freeCandidates_ascending p
  rw [State.freePass_eq]
  cases candidates : s.freeCandidates p with
  | nil =>
      refine .inl ⟨rfl, fun r b t eligible => ?_⟩
      obtain ⟨u, inside, -⟩ := listed eligible
      simp [candidates] at inside
  | cons x rest =>
      rw [candidates] at ascending
      obtain ⟨before, later⟩ := List.pairwise_cons.mp ascending
      obtain ⟨⟨r, b, t⟩, chosen, member, first, all⟩ := foldl_earlier later x before
      have inside : (r, b, t) ∈ s.freeCandidates p := by
        rw [candidates]
        rcases member with rfl | member
        · exact List.mem_cons_self
        · exact List.mem_cons_of_mem _ member
      have precedes : ∀ y ∈ s.freeCandidates p, Precedes (r, b, t) y := by
        rw [candidates]
        exact List.forall_mem_cons.mpr ⟨first, all⟩
      obtain ⟨board, stands, rank, tab⟩ := (s.mem_freeCandidates p r b t).mp inside
      refine .inr ⟨r, b, t, by simp [earlier, chosen], rank ▸ State.eligibleFree_some stands tab, ?_⟩
      intro q c u eligible
      obtain ⟨board', v, stands', rank', tab', le⟩ := State.eligibleFree_of_eligible eligible
      have order := precedes (q, c, v) ((s.mem_freeCandidates p q c v).mpr ⟨board', stands', rank', tab'⟩)
      rcases order with lower | ⟨same, index⟩
      · exact .inl lower
      · refine .inr ⟨same, ?_⟩
        rcases Nat.lt_or_eq_of_le index with lower | rfl
        · exact .inl lower
        · obtain rfl := Option.some.inj (stands.symm.trans stands')
          obtain rfl := Option.some.inj (tab.symm.trans tab')
          exact .inr ⟨rfl, le⟩

/-! ### The choice -/

theorem choiceIsEligible : Says.ChosenTabIsEligible := by
  intro s c chosen
  unfold State.chooseTab at chosen
  split at chosen
  · cases chosen
  next i served =>
    obtain ⟨-, -, panel, -, record, servable, -⟩ := State.servedPanel_some served
    have active : panel.state.isActive = true := by
      simp only [Panel.servable, Bool.and_eq_true] at servable
      exact servable.1
    rw [record] at chosen
    dsimp only at chosen
    split at chosen
    next b t hold =>
      obtain rfl := Option.some.inj chosen
      obtain ⟨⟨board, stands, held, clear, uncut, role⟩, -⟩ := State.holdPass_some hold
      exact ⟨served, record, active, board, stands, clear, uncut, role, fun _ => held, (fun free => nomatch free)⟩
    next =>
      obtain ⟨⟨b, t⟩, free, rfl⟩ := Option.map_eq_some_iff.mp chosen
      rcases s.freePass_cases panel with ⟨none_, -⟩ | ⟨r, b', t', some_, eligible, -⟩
      · rw [none_] at free
        cases free
      · obtain ⟨rfl, rfl⟩ := Prod.mk.inj (Option.some.inj (some_.symm.trans free))
        obtain ⟨board, stands, -, cutting, clear, uncut, role, room⟩ := eligible
        exact ⟨served, record, active, board, stands, clear, uncut, role, (fun hold => nomatch hold),
          fun _ => ⟨cutting, room⟩⟩

theorem State.chooseTab_of_hold {s : State} {i : Fin 4} {panel : Panel} {b t : Nat} (served : s.servedPanel = some i)
    (record : s.panels.records[i] = some panel) (pass : s.holdPass panel = some (b, t)) :
    s.chooseTab = some { record := i, panel := panel, board := b, tab := t, hold := true } := by
  unfold State.chooseTab
  simp only [served, record, pass]

theorem State.chooseTab_of_free {s : State} {i : Fin 4} {panel : Panel} (served : s.servedPanel = some i)
    (record : s.panels.records[i] = some panel) (pass : s.holdPass panel = none) :
    s.chooseTab = (s.freePass panel).map fun x =>
      { record := i, panel := panel, board := x.1, tab := x.2, hold := false } := by
  unfold State.chooseTab
  simp only [served, record, pass]

theorem theFirstEligibleTabIsChosen : Says.TheFirstEligibleTabIsChosen := by
  intro s safe
  refine ⟨fun none_ => by simp [State.chooseTab, none_], fun i panel served record => ?_⟩
  have once := Panel.heldOnce_of_claimSafe safe record
  refine ⟨fun b t eligible first => ?_, fun none_ => ?_⟩
  · cases pass : s.holdPass panel with
    | none => exact absurd eligible (State.holdPass_none once pass b t)
    | some x =>
        obtain ⟨c, u⟩ := x
        obtain ⟨taken, least⟩ := State.holdPass_some pass
        have board : c = b := by
          obtain ⟨x, standsX, heldX, -⟩ := taken
          obtain ⟨y, standsY, heldY, -⟩ := eligible
          exact once c b x y standsX standsY heldX heldY
        subst board
        obtain rfl : u = t := Nat.le_antisymm (least t eligible) (first u taken)
        exact State.chooseTab_of_hold served record pass
  · have pass : s.holdPass panel = none := by
      cases pass : s.holdPass panel with
      | none => rfl
      | some x => exact absurd (State.holdPass_some pass).1 (none_ x.1 x.2)
    rw [State.chooseTab_of_free served record pass]
    rcases s.freePass_cases panel with ⟨free, missing⟩ | ⟨r, b, t, free, eligible, least⟩
    · rw [free]
      exact ⟨fun r b t eligible => absurd eligible (missing r b t), fun _ => rfl⟩
    · rw [free]
      refine ⟨fun q c u eligible' first => ?_, fun missing => absurd eligible (missing r b t)⟩
      have one := least q c u eligible'
      have two := first r b t eligible
      obtain ⟨rfl, rfl⟩ : b = c ∧ t = u := by omega
      rfl

end Sys2Proof.Machine

/-! PROOFS. A tab that changes state (R14, R19). -/

namespace Sys2Proof.Machine

open Sys2Proof

theorem modify1_eq_set {α : Type} {l : List α} {n : Nat} {x : α} (found : nth1 l n = some x) (f : α → α) :
    modify1 l n f = l.set (n - 1) (f x) := by
  cases n with
  | zero => simp [nth1] at found
  | succ n =>
      rw [nth1_add_one] at found
      simp [modify1, List.modify_eq_set_getElem?, found]

theorem Board.setTab_eq {board : Board} {n : Nat} {x : TabState} (found : nth1 board.tabs n = some x) (st : TabState) :
    board.setTab n st = { board with tabs := board.tabs.set (n - 1) st } := by
  rw [Board.setTab, modify1_eq_set found]

/-! ### The changed board -/

/-- The board with a tab in a new state and its review reason re-evaluated in s (R14, R19). -/
def State.tabbed (s : State) (l : Located) (n : Nat) (st : TabState) (board : Board) : Board :=
  { board.setTab n st with review := s.reviewOf { l with board := l.board.setTab n st } }

/-- The reason reads the tabs, which the changed board has already. -/
theorem State.reviewOf_tab {t : State} {l : Located} {p : Panel} (serial : p.serial = l.panel.serial) {i : Fin 4}
    {b : Nat} {f : Board → Board} {board : Board} :
    (t.modifyBoard i b f).reviewOf { l with panel := p, board := board } = t.reviewOf { l with board := board } :=
  State.reviewOf_congr rfl rfl (by simp [Located.id, serial]) (by simp)

theorem State.BoardChanged.setTab {s t : State} {l : Located} {f : Board → Board}
    (h : s.BoardChanged t l.record l.index f) (found : t.locate l.record l.index = some l) (n : Nat) (st : TabState) :
    s.BoardChanged (t.setTab l.record l.index n st) l.record l.index (t.tabbed l n st ∘ f) := by
  have modified : t.BoardChanged (t.modifyBoard l.record l.index (·.setTab n st)) l.record l.index (·.setTab n st) :=
    (State.BoardChanged.refl t l.record l.index).modifyBoard _
  obtain ⟨p, located, serial, -⟩ := modified.locate found
  refine ((h.modifyBoard (·.setTab n st)).review located).congr ?_
  funext board
  simp [State.tabbed, State.reviewOf_tab serial]

/-! ### The changed record -/

theorem State.modifyBoard_panels {s : State} {i : Fin 4} {p : Panel} (record : s.panels.records[i] = some p) (b : Nat)
    (f : Board → Board) :
    (s.modifyBoard i b f).panels
      = { s.panels with records := s.panels.records.set i (some { p with boards := modify1 p.boards b f }) } := by
  simp only [State.modifyBoard, State.modifyPanel, record, State.setRecord, Option.map_some, Panel.modifyBoard]

theorem State.locate_parts {s : State} {l : Located} (found : s.locate l.record l.index = some l) :
    s.panels.records[l.record] = some l.panel ∧ nth1 l.panel.boards l.index = some l.board := by
  obtain ⟨p, record, there⟩ := Option.bind_eq_some_iff.mp found
  obtain ⟨board, stands, same⟩ := Option.map_eq_some_iff.mp there
  obtain rfl : p = l.panel := congrArg Located.panel same
  obtain rfl : board = l.board := congrArg Located.board same
  exact ⟨record, stands⟩

/-- The panel table after a tab of a board has changed. -/
theorem State.setTab_panels {s : State} {l : Located} (found : s.locate l.record l.index = some l) (n : Nat)
    (st : TabState) :
    (s.setTab l.record l.index n st).panels
      = { s.panels with records := s.panels.records.set l.record (some { l.panel with
          boards := l.panel.boards.set (l.index - 1) (s.tabbed l n st l.board) }) } := by
  obtain ⟨record, stands⟩ := State.locate_parts found
  have modified : s.BoardChanged (s.modifyBoard l.record l.index (·.setTab n st)) l.record l.index (·.setTab n st) :=
    (State.BoardChanged.refl s l.record l.index).modifyBoard _
  obtain ⟨p, located, serial, -⟩ := modified.locate found
  have first := State.modifyBoard_panels record l.index (·.setTab n st)
  have again : (s.modifyBoard l.record l.index (·.setTab n st)).panels.records[l.record]
      = some { l.panel with boards := modify1 l.panel.boards l.index (·.setTab n st) } := by
    simp [first]
  unfold State.setTab State.review
  rw [located]
  dsimp only
  rw [State.modifyBoard_panels again, first]
  simp only [modify1_modify1, State.reviewOf_tab serial]
  simp [State.tabbed, modify1_eq_set stands]

end Sys2Proof.Machine

/-! PROOFS. NEXT_CUT (R30, R32 to R34). -/

namespace Sys2Proof.Machine

open Sys2Proof

/-! ### What a change of one board keeps of the views -/

/-- A change of a board that keeps its divert flag keeps what the destination wait depends on (R57). -/
theorem State.BoardChanged.waitView {s t : State} {i : Fin 4} {b : Nat} {f : Board → Board}
    (h : s.BoardChanged t i b f) (divert : ∀ board, (f board).divert = board.divert)
    (claim : t.gripper.claim = s.gripper.claim) (magazine : t.magazine = s.magazine) : t.waitView = s.waitView := by
  have named (id : BoardId) : (t.locateId id).map (·.board.divert) = (s.locateId id).map (·.board.divert) := by
    have stands (j : Fin 4) : (t.boardAt j id.board).map (·.divert) = (s.boardAt j id.board).map (·.divert) := by
      rw [h.boardAt]
      split
      · simp [Function.comp_def, divert]
      · rfl
    simp only [State.locateId, h.recordOfSerial, Option.map_bind, Function.comp_def]
    congr 1
    funext j
    simpa [Option.map_map, Function.comp_def] using stands j
  have claimed : t.claimed.map (·.board.divert) = s.claimed.map (·.board.divert) := by
    simp only [State.claimed, claim, Option.map_bind]
    congr 1
    funext id
    exact named id
  simp only [State.waitView, magazine, claimed]

/-- While what the destination wait depends on stands, the tracker stays as the change left it (R57). -/
theorem commit_gripper_of_view {before after : State} (session : after.magazine.session = before.magazine.session)
    (view : after.waitView = before.waitView) : (commit before after).gripper = after.gripper := by
  unfold commit
  rw [State.refreshFull_of_session session, State.refreshWait_of_view view]
  simp

/-- A record changed into one that is as servable leaves the served panel. -/
theorem State.servedPanel_of_set {s t : State} {i : Fin 4} {p q : Panel} (record : s.panels.records[i] = some p)
    (panels : t.panels = { s.panels with records := s.panels.records.set i (some q) })
    (servable : q.servable = p.servable) : t.servedPanel = s.servedPanel := by
  unfold State.servedPanel
  rw [panels]
  congr 1
  funext j
  by_cases own : j = i
  · subst own
    simp [record, servable]
  · have other : (s.panels.records.set i (some q))[j] = s.panels.records[j] := by
      simpa [own, State.setRecord] using s.setRecord_records i j (some q)
    simp only [other]

/-- A panel of its own serial is the record that the serial names. -/
theorem State.recordOfSerial_own {s : State} (safe : PanelsSafe s) {i : Fin 4} {p : Panel}
    (record : s.panels.records[i] = some p) : s.recordOfSerial p.serial = some i := by
  cases found : s.recordOfSerial p.serial with
  | none => simpa using State.findRecord_none found record
  | some j =>
      have carries : ∃ q, s.panels.records[j] = some q ∧ q.serial = p.serial := by
        unfold State.recordOfSerial State.findRecord at found
        have carries := List.find?_some found
        simpa [Option.any_eq_true] using carries
      obtain ⟨q, there, serial⟩ := carries
      rw [(safe i p record).2 j q there (.inl serial)]

/-! ### The chosen tab -/

/-- The board of a choice. -/
def Choice.located (c : Choice) (board : Board) : Located :=
  { record := c.record, panel := c.panel, index := c.board, board := board }

theorem State.chooseTab_located {s : State} {c : Choice} (chosen : s.chooseTab = some c) {board : Board}
    (stands : nth1 c.panel.boards c.board = some board) :
    s.locate c.record c.board = some (c.located board) ∧ nth1 board.tabs c.tab = some .uncut
      ∧ c.panel.state.isActive = true := by
  obtain ⟨-, record, active, board', stands', -, uncut, -⟩ := choiceIsEligible s c chosen
  obtain rfl := Option.some.inj (stands'.symm.trans stands)
  exact ⟨by simp [State.locate, record, stands, Choice.located], uncut, active⟩

/-- A panel with a board of which a tab is UNCUT or GRANTED can be served. -/
theorem Panel.servable_of_tab {p : Panel} (active : p.state.isActive = true) {board : Board} (listed : board ∈ p.boards)
    {st : TabState} (tab : st ∈ board.tabs) (kind : st = .uncut ∨ st = .granted) : p.servable = true := by
  simp only [Panel.servable, active, Bool.true_and, List.any_eq_true]
  exact ⟨board, listed, st, tab, by rcases kind with rfl | rfl <;> rfl⟩

theorem mem_of_nth1 {α : Type} {l : List α} {n : Nat} {x : α} (found : nth1 l n = some x) : x ∈ l := by
  unfold nth1 at found
  split at found
  · cases found
  · exact List.mem_of_getElem? found

theorem mem_set_of_nth1 {α : Type} {l : List α} {n : Nat} {x : α} (found : nth1 l n = some x) (y : α) :
    y ∈ l.set (n - 1) y := by
  unfold nth1 at found
  split at found
  · cases found
  · obtain ⟨bound, -⟩ := List.getElem?_eq_some_iff.mp found
    exact List.mem_set bound y

/-! ### The grant -/

section

variable {s : State} {c : Choice} {board : Board} {g : Grant}

/-- The part after the chosen tab has become GRANTED. -/
def State.granting (s : State) (c : Choice) : State := s.setTab c.record c.board c.tab .granted

theorem State.granting_changes (chosen : s.chooseTab = some c) (stands : nth1 c.panel.boards c.board = some board) :
    s.BoardChanged (s.granting c) c.record c.board (s.tabbed (c.located board) c.tab .granted) :=
  (State.BoardChanged.setTab (l := c.located board) (.refl s c.record c.board)
    (State.chooseTab_located chosen stands).1 c.tab .granted).congr (Function.comp_id _)

theorem State.granting_panels (chosen : s.chooseTab = some c) (stands : nth1 c.panel.boards c.board = some board) :
    (s.granting c).panels = { s.panels with records := s.panels.records.set c.record (some { c.panel with
      boards := c.panel.boards.set (c.board - 1) (s.tabbed (c.located board) c.tab .granted board) }) } :=
  State.setTab_panels (l := c.located board) (State.chooseTab_located chosen stands).1 c.tab .granted

theorem State.tabbed_eq {l : Located} {n : Nat} {x : TabState} (tab : nth1 l.board.tabs n = some x) (st : TabState) :
    s.tabbed l n st l.board = { l.board with
      tabs := l.board.tabs.set (n - 1) st
      review := s.reviewOf { l with board := { l.board with tabs := l.board.tabs.set (n - 1) st } } } := by
  rw [State.tabbed, Board.setTab_eq tab]

/-- The panel of a granted tab is served as before. -/
theorem State.granting_served (chosen : s.chooseTab = some c) (stands : nth1 c.panel.boards c.board = some board) :
    (s.granting c).servedPanel = s.servedPanel := by
  obtain ⟨located, uncut, active⟩ := State.chooseTab_located chosen stands
  have record := (State.locate_parts (l := c.located board) located).1
  refine State.servedPanel_of_set (i := c.record) record (State.granting_panels chosen stands) ?_
  have before : c.panel.servable = true :=
    Panel.servable_of_tab active (mem_of_nth1 stands) (mem_of_nth1 uncut) (.inl rfl)
  have after : Panel.servable { c.panel with
      boards := c.panel.boards.set (c.board - 1) (s.tabbed (c.located board) c.tab .granted board) } = true := by
    refine Panel.servable_of_tab active (mem_set_of_nth1 stands _) ?_ (.inr rfl)
    have tabs := congrArg Board.tabs (State.tabbed_eq (s := s) (l := c.located board) uncut .granted)
    exact tabs ▸ mem_set_of_nth1 uncut _
  exact after.trans before.symm

/-- The time limit of the grant is that of the chosen panel's recipe (R34). -/
theorem State.granting_expiry (safe : PanelsSafe s) (chosen : s.chooseTab = some c)
    (stands : nth1 c.panel.boards c.board = some board) {r : Recipe} (recipe : s.recipeOf c.panel = some r)
    (own : g.serial = c.panel.serial) : (s.granting c).loadExpiry g = some { ms := r.header.cutLimit, us := 0 } := by
  have record : s.panels.records[c.record] = some c.panel :=
    (State.locate_parts (l := c.located board) (State.chooseTab_located chosen stands).1).1
  have named : (s.granting c).recordOfSerial g.serial = some c.record := by
    rw [(State.granting_changes chosen stands).recordOfSerial, own, State.recordOfSerial_own safe record]
  have limit : (s.granting c).cutLimit g = some r.header.cutLimit := by
    have recipes : (s.granting c).recipes = s.recipes := by simp [State.granting]
    simp only [State.cutLimit, named, Option.bind_some, State.granting_panels chosen stands, State.recipeOf, recipes]
    simpa [State.recipeOf] using congrArg (Option.map fun x : Recipe => x.header.cutLimit) recipe
  rw [State.loadExpiry, limit]
  rfl

/-- What a grant leaves at the end of its change (R30, R32 to R34). -/
theorem State.issue_follows (chosen : s.chooseTab = some c) (stands : nth1 c.panel.boards c.board = some board) :
    let t := commit s (s.issue c g)
    t.scheduler = { s.scheduler with
        window := s.scheduler.window ++ [g]
        tag := nextTag s.scheduler.tag
        expiry := if s.scheduler.window.isEmpty then (s.granting c).loadExpiry g else s.scheduler.expiry }
      ∧ t.panels = (s.granting c).panels ∧ t.store = s.storeBegin.store
      ∧ { t with panels := s.panels, scheduler := s.scheduler, store := s.store, ports := s.ports } = s := by
  have issued : (s.issue c g).panels = (s.granting c).panels := rfl
  have served : (s.issue c g).servedPanel = s.servedPanel :=
    (State.servedPanel_of_panels issued).trans (State.granting_served chosen stands)
  have magazine : (s.issue c g).magazine = s.magazine := by simp [State.issue]
  have view : (s.issue c g).waitView = s.waitView :=
    ((State.granting_changes chosen stands).same issued).waitView (fun _ => rfl) (by simp [State.issue]) magazine
  have gripper : (commit s (s.issue c g)).gripper = s.gripper := by
    rw [commit_gripper_of_view (congrArg (·.session) magazine) view]
    simp [State.issue]
  have kept : (commit s (s.issue c g)).magazine = s.magazine :=
    (commit_magazine (congrArg (·.session) magazine)).trans magazine
  refine ⟨?_, ?_, ?_, ?_⟩
  · rw [(commit_frame _ _).2.2.1]
    simp [State.issue, State.granting]
  · rw [(commit_frame _ _).2.1, issued]
  · rw [commit_store]
    exact State.storeBegin_store (by simp [State.issue]) (by simp [State.issue]) (by simp [State.issue])
      (by simp [State.issue])
  · simp only [commit_frame, gripper, kept, commit_spindle_of_served served]
    simp [State.issue]

end

theorem nextCutGrantsTheChosenTab : Says.NextCutGrantsTheChosenTab := by
  intro s p reaches safe
  refine ⟨fun notRun => waits_of_handler reaches rfl (by simp [notRun]), fun run =>
    ⟨fun slow => waits_of_handler reaches rfl (by simp [run, slow]), fun atSpeed =>
      ⟨fun worn => waits_of_handler reaches rfl (by simp [run, atSpeed, worn]), fun sound =>
        ⟨fun full => waits_of_handler reaches rfl (by simp [run, atSpeed, sound, full]), fun room =>
          ⟨fun none_ => waits_of_handler reaches rfl ?_, fun c d r board chosen tab recipe stands => ?_⟩⟩⟩⟩⟩
  · simp [run, atSpeed, sound, Nat.not_le.mpr room, none_]
  · obtain ⟨scheduler, panels, store, rest⟩ := State.issue_follows (g := s.newGrant c d r) chosen stands
    obtain ⟨-, uncut, -⟩ := State.chooseTab_located chosen stands
    refine ⟨commit s (s.issue c (s.newGrant c d r)), ?_, ?_, ?_, store, rest⟩
    · refine answers_of_handler reaches rfl ?_
      simp [run, atSpeed, sound, Nat.not_le.mpr room, chosen, tab, recipe, accept, conclude, State.newGrant]
    · rw [scheduler, State.granting_expiry safe chosen stands recipe rfl]
      simp [nextTag, State.newGrant, List.isEmpty_iff]
    · rw [panels, State.granting_panels chosen stands]
      have eq := State.tabbed_eq (s := s) (l := c.located board) uncut .granted
      simp only [Choice.located] at eq ⊢
      rw [eq]

/-- Settles O30, by the hold-tab pass, the free-tab pass and what the grant of their tab changes. -/
theorem chosenTabIsEligible : Obligations.ChosenTabIsEligible :=
  ⟨choiceIsEligible, theFirstEligibleTabIsChosen, nextCutGrantsTheChosenTab⟩

end Sys2Proof.Machine

/-! PROOFS. A tab that is cut: its board, the queue, the claim and the window after it (R21, R36 to R38). -/

namespace Sys2Proof.Machine

open Sys2Proof

/-! ### The review reason and the window -/

/-- A board with a SUSPECT tab is flagged for it, before any other reason (R19). -/
theorem State.reviewOf_suspect (s : State) (l : Located) :
    s.reviewOf l = some .suspectTab ↔ TabState.suspect ∈ l.board.tabs := by
  unfold State.reviewOf
  by_cases suspect : TabState.suspect ∈ l.board.tabs
  · simp [suspect]
  · simp [suspect]

/-- The window of t is that of s but for the status of its grants, with its timer and the next tag. -/
def State.SameWindow (s t : State) : Prop :=
  t.scheduler.window.map (fun g => { g with live := false }) = s.scheduler.window.map (fun g => { g with live := false })
    ∧ t.scheduler.expiry = s.scheduler.expiry ∧ t.scheduler.tag = s.scheduler.tag
    ∧ t.scheduler.hangLimit = s.scheduler.hangLimit

namespace State.SameWindow

variable {s t u : State}

theorem of_scheduler (scheduler : t.scheduler = s.scheduler) : s.SameWindow t := by
  simp [State.SameWindow, scheduler]

theorem trans (first : s.SameWindow t) (second : t.SameWindow u) : s.SameWindow u := by
  obtain ⟨window, expiry, tag, limit⟩ := first
  obtain ⟨window', expiry', tag', limit'⟩ := second
  exact ⟨window'.trans window, expiry'.trans expiry, tag'.trans tag, limit'.trans limit⟩

theorem raise (s : State) (k : FaultKind) : s.SameWindow (s.raise k) := by
  by_cases parks : s.RaiseParks k
  · obtain ⟨-, -, -, -, revoked, -⟩ := State.raise_parks parks
    simp [State.SameWindow, revoked, Function.comp_def]
  · exact of_scheduler (State.raise_stays parks).2.2

theorem tags (same : s.SameWindow t) : t.scheduler.window.map (·.tag) = s.scheduler.window.map (·.tag) := by
  have tags := congrArg (List.map fun g : Grant => g.tag) same.1
  simpa [Function.comp_def] using tags

end State.SameWindow

/-! ### The ways a cut moves its board -/

/-- The board record when its tab has been cut, before the board moves. -/
def State.cutMark (s : State) (l : Located) (n : Nat) : State :=
  (s.modifyBoard l.record l.index (·.countCut (s.isHold l.panel l.index n))).setTab l.record l.index n .cut

/-- The ways a cut moves its board: it stays, its holder has it loose, it hangs, or it drops (R21, R36 to R38). -/
theorem State.cutTab_cases (s : State) (l : Located) (n : Nat) :
    let after := l.board.afterCut (s.isHold l.panel l.index n)
    (after = l.board.state ∧ s.cutTab l n = s.cutMark l n)
      ∨ (l.board.state = .held ∧ after = .loose
          ∧ s.cutTab l n = (s.cutMark l n).moveBoard l.record l.index .loose)
      ∨ (l.board.state = .cutting ∧ after = .hanging
          ∧ s.cutTab l n = ((s.cutMark l n).moveBoard l.record l.index .hanging).hang l.id)
      ∨ ((l.board.state = .hanging ∨ l.board.state = .claimed) ∧ after = .lost
          ∧ s.cutTab l n = (s.cutMark l n).dropBoard l) := by
  unfold State.cutTab Board.afterCut State.cutMark
  by_cases hold : s.isHold l.panel l.index n = true
  · simp only [hold, if_true, Board.countCut]
    by_cases last : l.board.holdUncut - 1 = 0
    · simp only [if_pos last]
      cases state : l.board.state <;> simp
    · simp only [if_neg last]
      simp
  · simp only [hold, Bool.false_eq_true, if_false, Board.countCut]
    by_cases last : l.board.freeUncut - 1 = 0 ∧ l.board.state = .cutting
    · simp only [if_pos last]
      simp [last.2]
    · simp only [if_neg last]
      simp

/-! ### The board -/

theorem State.BoardChanged.drop {s t : State} {l : Located} {f : Board → Board}
    (h : s.BoardChanged t l.record l.index f) :
    s.BoardChanged (t.dropBoard l) l.record l.index ((fun board => { board with state := .lost }) ∘ f) := by
  unfold State.dropBoard
  dsimp only
  have freed : s.BoardChanged (if l.board.state = .claimed then t.emptyClaim.post .pick .claimEnded else t.unqueue l.id)
      l.record l.index f := by
    split <;> exact h.same (by simp)
  exact (freed.moveBoard .lost).same (by simp)

section

variable {s : State} {l : Located} {n : Nat} {x : TabState}

/-- The board with a tab in a new state, but for what its review reason is. -/
theorem State.tabbed_review (tab : nth1 l.board.tabs n = some x) (st : TabState) :
    ∃ review, s.tabbed l n st l.board = { l.board with tabs := l.board.tabs.set (n - 1) st, review := review }
      ∧ (review = some .suspectTab ↔ TabState.suspect ∈ l.board.tabs.set (n - 1) st) :=
  ⟨_, State.tabbed_eq tab st, State.reviewOf_suspect _ _⟩

/-- The marked board is the cut one but for its state. -/
theorem State.cutMark_board (found : s.locate l.record l.index = some l) (tab : nth1 l.board.tabs n = some x) :
    ∃ f review, s.BoardChanged (s.cutMark l n) l.record l.index f
      ∧ f l.board = { l.board.withCut (s.isHold l.panel l.index n) n review with state := l.board.state }
      ∧ (review = some .suspectTab ↔ TabState.suspect ∈ l.board.tabs.set (n - 1) .cut) := by
  have counted : s.BoardChanged (s.modifyBoard l.record l.index (·.countCut (s.isHold l.panel l.index n))) l.record
      l.index (·.countCut (s.isHold l.panel l.index n)) := (State.BoardChanged.refl s l.record l.index).modifyBoard _
  obtain ⟨p, located, -⟩ := counted.locate found
  have kept : (l.board.countCut (s.isHold l.panel l.index n)).tabs = l.board.tabs := by
    unfold Board.countCut
    split <;> rfl
  obtain ⟨review, marked, suspect⟩ := State.tabbed_review
    (s := s.modifyBoard l.record l.index (·.countCut (s.isHold l.panel l.index n)))
    (l := { l with panel := p, board := l.board.countCut (s.isHold l.panel l.index n) }) (kept ▸ tab) .cut
  refine ⟨_, review, counted.setTab (l := { l with panel := p, board := l.board.countCut (s.isHold l.panel l.index n) })
    located n .cut, Eq.trans marked ?_, ?_⟩
  · unfold Board.countCut Board.withCut
    cases s.isHold l.panel l.index n <;> rfl
  · rw [suspect, kept]

/-- The board record after a cut, wherever the board goes (R21, R36 to R38). -/
theorem State.cutTab_board (found : s.locate l.record l.index = some l) (tab : nth1 l.board.tabs n = some x) :
    ∃ f review, s.BoardChanged (s.cutTab l n) l.record l.index f
      ∧ f l.board = l.board.withCut (s.isHold l.panel l.index n) n review
      ∧ (review = some .suspectTab ↔ TabState.suspect ∈ l.board.tabs.set (n - 1) .cut) := by
  obtain ⟨f, review, marked, board, suspect⟩ := State.cutMark_board found tab
  rcases s.cutTab_cases l n with ⟨stays, eq⟩ | ⟨-, loose, eq⟩ | ⟨-, hanging, eq⟩ | ⟨-, lost, eq⟩
  · exact ⟨f, review, eq ▸ marked, by rw [board, ← stays], suspect⟩
  · refine ⟨_, review, eq ▸ marked.moveBoard .loose, ?_, suspect⟩
    rw [Function.comp_apply, board, ← loose]
  · refine ⟨_, review, eq ▸ State.BoardChanged.same (marked.moveBoard .hanging) (State.hang_frame _ _).2.1, ?_, suspect⟩
    rw [Function.comp_apply, board, ← hanging]
  · refine ⟨_, review, eq ▸ marked.drop, ?_, suspect⟩
    rw [Function.comp_apply, board, ← lost]

end

/-! ### The queue, the claim and the drop -/

/-- The part whose dropped board has left the queue or the claim (R38, R47). -/
def State.freed (s : State) (l : Located) : State :=
  if l.board.state = .claimed then s.emptyClaim.post .pick .claimEnded else s.unqueue l.id

theorem State.dropBoard_eq (s : State) (l : Located) :
    s.dropBoard l = ((s.freed l).moveBoard l.record l.index .lost).raise .boardDropped := rfl

theorem State.freed_of_claimed {s : State} {l : Located} (claimed : l.board.state = .claimed) :
    s.freed l = s.emptyClaim.post .pick .claimEnded := if_pos claimed

theorem State.freed_of_hanging {s : State} {l : Located} (hanging : l.board.state = .hanging) :
    s.freed l = s.unqueue l.id := if_neg (by simp [hanging])

theorem State.freed_cell (s : State) (l : Located) : (s.freed l).cell = s.cell := by
  unfold State.freed
  split <;> simp

theorem State.freed_posts (s : State) (l : Located) : (s.freed l).Posts (s.dropBoard l) := by
  rw [State.dropBoard_eq]
  exact ((State.Posts.refl _).moveBoard _ _ _).raise _

/-- A drop raises BOARD_DROPPED (R38). -/
theorem State.dropBoard_raises {s : State} (l : Located) (on : (s.fault .boardDropped).enabled = true) :
    ((s.dropBoard l).fault .boardDropped).count = min 255 ((s.fault .boardDropped).count + 1)
      ∧ (s.dropBoard l).isPending .cell .faultRaised = true := by
  have table : ((s.freed l).moveBoard l.record l.index .lost).fault .boardDropped = s.fault .boardDropped :=
    State.fault_of_faults (by simp [State.freed_cell]) _
  have enabled := on
  rw [← table] at enabled
  rw [State.dropBoard_eq, (State.raise_enabled _ enabled).1, table]
  exact ⟨rfl, State.raise_posts _ enabled⟩

/-- What a cut does beyond its board record. -/
theorem State.cutTab_follows (s : State) (l : Located) (n : Nat) :
    CutFollows s (s.cutTab l n) l (s.isHold l.panel l.index n) := by
  have marked : (s.cutMark l n).gripper = s.gripper := by simp [State.cutMark]
  have table : (s.cutMark l n).fault .boardDropped = s.fault .boardDropped :=
    State.fault_of_faults (by simp [State.cutMark]) _
  rcases s.cutTab_cases l n with ⟨stays, eq⟩ | ⟨held, loose, eq⟩ | ⟨cutting, hanging, eq⟩ | ⟨hung, lost, eq⟩
  · refine ⟨fun _ => by simp [eq, marked], ?_, ?_, ?_, ?_⟩ <;> intro state moved <;> simp_all
  · refine ⟨fun _ => by simp [eq, marked], ?_, ?_, ?_, ?_⟩ <;> intro state moved <;> simp_all
  · refine ⟨?_, fun _ _ => ⟨by simp [eq, marked, State.hang], by simp [eq, marked, State.hang], ?_⟩, ?_, ?_, ?_⟩
    · simp_all
    · rw [eq]
      exact State.isPending_post _ (by decide)
    all_goals intro state moved; simp_all
  · refine ⟨?_, ?_, fun state _ => ?_, fun state _ => ?_, fun _ _ on => ?_⟩
    · rcases hung with hung | hung <;> simp_all
    · simp_all
    · simp [eq, State.dropBoard_eq, State.freed_of_hanging state, State.unqueue, marked]
    · refine ⟨?_, ?_, ?_⟩
      · simp [eq, State.dropBoard_eq, State.freed_of_claimed state, State.emptyClaim, marked]
      · simp [eq, State.dropBoard_eq, State.freed_of_claimed state, State.emptyClaim]
      · rw [eq]
        exact (State.freed_of_claimed state ▸ (s.cutMark l n).freed_posts l).posted (by decide)
    · rw [eq, ← table]
      exact State.dropBoard_raises l (table ▸ on)

theorem CutFollows.commit {s t : State} {l : Located} {hold : Bool} (follows : CutFollows s t l hold) (before : State) :
    CutFollows s (commit before t) l hold := by
  obtain ⟨stays, hangs, drops, ends, raises⟩ := follows
  have claim : (Machine.commit before t).gripper.claim = t.gripper.claim := by simp
  have fault : (Machine.commit before t).fault .boardDropped = t.fault .boardDropped :=
    State.fault_of_faults (by simp) _
  rw [CutFollows, commit_queue, claim, fault]
  exact ⟨stays,
    fun cutting hanging =>
      let ⟨queue, claim, posted⟩ := hangs cutting hanging
      ⟨queue, claim, commit_keepsPending _ _ _ _ posted⟩,
    drops,
    fun claimed lost =>
      let ⟨queue, claim, posted⟩ := ends claimed lost
      ⟨queue, claim, commit_keepsPending _ _ _ _ posted⟩,
    fun lost living on =>
      let ⟨count, posted⟩ := raises lost living on
      ⟨count, commit_keepsPending _ _ _ _ posted⟩⟩

/-- A cut keeps the window but for the status of its grants. -/
theorem State.cutTab_window (s : State) (l : Located) (n : Nat) : s.SameWindow (s.cutTab l n) := by
  rcases s.cutTab_cases l n with ⟨-, eq⟩ | ⟨-, -, eq⟩ | ⟨-, -, eq⟩ | ⟨-, -, eq⟩
  · exact .of_scheduler (by simp [eq, State.cutMark])
  · exact .of_scheduler (by simp [eq, State.cutMark])
  · exact .of_scheduler (by simp [eq, State.cutMark])
  · rw [eq, State.dropBoard_eq]
    refine .trans (.of_scheduler ?_) (.raise _ _)
    unfold State.freed
    split <;> simp [State.cutMark]

end Sys2Proof.Machine

/-! PROOFS. RESOLVE_TAB (R20, R21). -/

namespace Sys2Proof.Machine

open Sys2Proof

section

variable {s : State} {sel : Selector} {b t : Nat} {rest : Located → State × Reply}

theorem State.suspectTab_unlocated (missing : s.locateSelected sel b = none) :
    s.suspectTab sel b t rest = refuse s .outOfRange := by
  simp [State.suspectTab, missing]

theorem State.suspectTab_noTab {l : Located} (named : s.locateSelected sel b = some l)
    (missing : nth1 l.board.tabs t = none) : s.suspectTab sel b t rest = refuse s .outOfRange := by
  simp [State.suspectTab, named, missing]

theorem State.suspectTab_settled {l : Located} {x : TabState} (named : s.locateSelected sel b = some l)
    (tab : nth1 l.board.tabs t = some x) (settled : x ≠ .suspect) :
    s.suspectTab sel b t rest = refuse s .wrongState := by
  simp [State.suspectTab, named, tab, settled]

theorem State.suspectTab_suspect {l : Located} (named : s.locateSelected sel b = some l)
    (tab : nth1 l.board.tabs t = some .suspect) : s.suspectTab sel b t rest = rest l := by
  simp [State.suspectTab, named, tab]

end

/-- The board of a tab that returns to UNCUT or becomes SUSPECT, and every other board. -/
theorem State.setTab_boards {s : State} {l : Located} (found : s.locate l.record l.index = some l) {n : Nat}
    {x : TabState} (tab : nth1 l.board.tabs n = some x) (st : TabState) :
    (s.setTab l.record l.index n st).boardAt l.record l.index = some { l.board with
        tabs := l.board.tabs.set (n - 1) st
        review := s.reviewOf { l with board := { l.board with tabs := l.board.tabs.set (n - 1) st } } }
      ∧ BoardsElsewhere s (s.setTab l.record l.index n st) l.record l.index := by
  have changed := (State.BoardChanged.refl s l.record l.index).setTab found n st
  obtain ⟨board, elsewhere⟩ := changed.boards (State.boardAt_of_locate found)
  exact ⟨board.trans (congrArg some (State.tabbed_eq tab st)), elsewhere⟩

theorem resolveTabUncutReturnsTheTab : Says.ResolveTabUncutReturnsTheTab := by
  intro s p sel b t reaches
  refine ⟨?_, fun l named tab => ?_⟩
  · simp only [List.forall_mem_cons, List.not_mem_nil, false_implies, implies_true, and_true]
    refine ⟨⟨fun missing => ?_, fun l named => ⟨fun missing => ?_, fun x tab settled => ?_⟩⟩,
      ⟨fun missing => ?_, fun l named => ⟨fun missing => ?_, fun x tab settled => ?_⟩⟩⟩
    · exact refuses_of_handler reaches rfl (State.suspectTab_unlocated missing)
    · exact refuses_of_handler reaches rfl (State.suspectTab_noTab named missing)
    · exact refuses_of_handler reaches rfl (State.suspectTab_settled named tab settled)
    · exact refuses_of_handler reaches rfl (State.suspectTab_unlocated missing)
    · exact refuses_of_handler reaches rfl (State.suspectTab_noTab named missing)
    · exact refuses_of_handler reaches rfl (State.suspectTab_settled named tab settled)
  · have found := State.locate_of_selected named
    obtain ⟨board, elsewhere⟩ := State.setTab_boards found tab .uncut
    have panels := (commit_frame (s.setTab l.record l.index t.toNat .uncut) s).2.1
    refine ⟨commit s (s.setTab l.record l.index t.toNat .uncut),
      answers_of_handler reaches rfl (State.suspectTab_suspect named tab),
      (State.boardAt_of_panels panels _ _).trans board,
      fun j c other => (State.boardAt_of_panels panels j c).trans (elsewhere j c other), by simp, by simp, by simp, ?_, ?_,
      by simp, by simp⟩
    · rw [commit_queue]
      simp
    · rw [commit_magazine] <;> simp

theorem resolveTabCutCutsTheTab : Says.ResolveTabCutCutsTheTab := by
  intro s p sel b t l reaches named tab hold
  have found := State.locate_of_selected named
  obtain ⟨f, review, changed, cut, suspect⟩ := State.cutTab_board found tab
  obtain ⟨board, elsewhere⟩ := (changed.commit s).boards (State.boardAt_of_locate found)
  rw [cut] at board
  refine ⟨commit s (s.cutTab l t.toNat), review, ?_, board, suspect, elsewhere, (s.cutTab_follows l t.toNat).commit s,
    by simp, ?_, by simp, ?_⟩
  · refine answers_of_handler reaches rfl ((State.suspectTab_suspect named tab).trans ?_)
    rw [accept, conclude, State.boardCode_of board]
  · rw [(commit_frame _ _).2.2.1, (s.cutTab_window l t.toNat).tags]
  · rw [commit_magazine] <;> simp

/-- Settles O28, by what setting and cutting a tab make of its board. -/
theorem resolveTabSettlesASuspectTab : Obligations.ResolveTabSettlesASuspectTab :=
  ⟨resolveTabUncutReturnsTheTab, resolveTabCutCutsTheTab⟩

end Sys2Proof.Machine

/-! PROOFS. The router's reports and the expiry of a grant (R35 to R40). -/

namespace Sys2Proof.Machine

open Sys2Proof

/-! ### The check of a report's tag (R35) -/

section

variable {s : State} {tag : Nat} {rest : Grant → State × Reply}

theorem State.reported_late (unknown : ∀ g ∈ s.scheduler.window, g.tag ≠ tag) :
    s.reported tag rest = refuse s .late := by
  unfold State.reported
  cases window : s.scheduler.window with
  | nil => rfl
  | cons g newer =>
      rw [window, List.forall_mem_cons] at unknown
      obtain ⟨first, others⟩ := unknown
      have none_ : newer.any (·.tag == tag) = false := by simpa using others
      simp [first, none_]

theorem State.reported_outOfOrder {g : Grant} {newer : List Grant} (window : s.scheduler.window = g :: newer)
    (other : g.tag ≠ tag) (known : ∃ n ∈ newer, n.tag = tag) : s.reported tag rest = refuse s .outOfOrder := by
  have any : newer.any (·.tag == tag) = true := by simpa using known
  simp [State.reported, window, other, any]

theorem State.reported_oldest {g : Grant} {newer : List Grant} (window : s.scheduler.window = g :: newer)
    (own : g.tag = tag) : s.reported tag rest = rest g := by
  simp [State.reported, window, own]

end

theorem reportsAreCheckedAgainstTheWindow : Says.ReportsAreCheckedAgainstTheWindow := by
  intro s p tag len
  simp only [List.forall_mem_cons, List.not_mem_nil, false_implies, implies_true, and_true]
  exact ⟨fun reaches => ⟨fun unknown => refuses_of_handler reaches rfl (State.reported_late unknown),
      fun g newer window other known =>
        refuses_of_handler reaches rfl (State.reported_outOfOrder window other known)⟩,
    fun reaches => ⟨fun unknown => refuses_of_handler reaches rfl (State.reported_late unknown),
      fun g newer window other known =>
        refuses_of_handler reaches rfl (State.reported_outOfOrder window other known)⟩⟩

/-! ### The window and the bit after a report -/

theorem OldestLeaves.of_same {s t : State} (same : s.dropOldest.SameWindow t) : OldestLeaves s t := same

theorem State.addWear_window (s : State) (length : Nat) : s.SameWindow (s.addWear length) := by
  unfold State.addWear
  dsimp only
  split
  · exact .trans (.of_scheduler rfl) (.raise _ _)
  · exact .of_scheduler rfl

theorem State.addWear_worn {s : State} {length : Nat} (sound : s.bit.worn = false)
    (reached : s.bit.record.params.endOfLife ≤ min 4294967295 (s.bit.record.wear + length)) :
    ((s.addWear length).fault .bitWorn).active = true := by
  simp only [State.addWear, sound, reached, Bool.not_false, decide_true, Bool.and_self, if_true]
  exact State.raise_active _ rfl

theorem State.addWear_fault_ne (s : State) (length : Nat) {k : FaultKind} (other : k ≠ .bitWorn) :
    (s.addWear length).fault k = s.fault k := by
  unfold State.addWear
  dsimp only
  split
  · rw [State.raise_fault_ne _ other]
    rfl
  · rfl

theorem State.cutTab_fault_ne (s : State) (l : Located) (n : Nat) {k : FaultKind} (other : k ≠ .boardDropped) :
    (s.cutTab l n).fault k = s.fault k := by
  rcases s.cutTab_cases l n with ⟨-, eq⟩ | ⟨-, -, eq⟩ | ⟨-, -, eq⟩ | ⟨-, -, eq⟩
  · exact State.fault_of_faults (by simp [eq, State.cutMark]) _
  · exact State.fault_of_faults (by simp [eq, State.cutMark]) _
  · exact State.fault_of_faults (by simp [eq, State.cutMark]) _
  · rw [eq, State.dropBoard_eq, State.raise_fault_ne _ other]
    exact State.fault_of_faults (by simp [State.freed_cell, State.cutMark]) _

/-- The part without its oldest grant and with the bit charged a length. -/
def State.charged (s : State) (length : Nat) : State := s.dropOldest.addWear length

@[simp] theorem State.charged_frame (s : State) (length : Nat) :
    (s.charged length).recipes = s.recipes ∧ (s.charged length).panels = s.panels
      ∧ (s.charged length).gripper = s.gripper ∧ (s.charged length).magazine = s.magazine
      ∧ (s.charged length).elevator = s.elevator ∧ (s.charged length).insertion = s.insertion := by
  simp [State.charged]

theorem State.charged_fault_ne (s : State) (length : Nat) {k : FaultKind} (other : k ≠ .bitWorn) :
    (s.charged length).fault k = s.fault k :=
  (State.addWear_fault_ne _ length other).trans (State.fault_of_faults (by simp) k)

/-- What a settled report leaves of the window and of the bit. -/
theorem report_charges {s u : State} {length : Nat} (window : (s.charged length).SameWindow u)
    (bit : u.bit = (s.charged length).bit) (worn : u.fault .bitWorn = (s.charged length).fault .bitWorn) :
    OldestLeaves s (commit s u) ∧ BitCharged s (commit s u) length := by
  have scheduler : u.SameWindow (commit s u) := .of_scheduler (by simp)
  have fault : (commit s u).fault .bitWorn = u.fault .bitWorn := State.fault_of_faults (by simp) _
  refine ⟨.of_same ((s.dropOldest.addWear_window length).trans (window.trans scheduler)), ?_, fun sound reached => ?_⟩
  · rw [(commit_frame _ _).2.2.2.1, bit, State.charged, State.addWear_bit]
    simp
  · rw [fault, worn]
    exact State.addWear_worn (by simpa using sound) (by simpa using reached)

/-! ### The board of a report -/

section

variable {s : State} {g : Grant} {f : State → Located → State} {l : Located}

theorem State.settleCut_cases (s : State) (g : Grant) (f : State → Located → State) :
    s.settleCut g f = s ∨ ∃ l, s.settleCut g f = f s l := by
  unfold State.settleCut
  split
  · exact .inl rfl
  next l _ =>
    split
    · exact .inl rfl
    · exact .inr ⟨l, rfl⟩

theorem State.settleCut_abandoned (named : s.locateId { serial := g.serial, board := g.board } = some l)
    (abandoned : l.board.state = .abandoned) : s.settleCut g f = s := by
  simp [State.settleCut, named, abandoned]

theorem State.settleCut_living (named : s.locateId { serial := g.serial, board := g.board } = some l)
    (living : l.board.state ≠ .abandoned) : s.settleCut g f = f s l := by
  simp [State.settleCut, named, living]

theorem State.reportBody_of {x : TabState} (named : s.locateId { serial := g.serial, board := g.board } = some l)
    (tab : nth1 l.board.tabs g.tab = some x) :
    s.reportBody g = [BitVec.ofNat 8 x.code, BitVec.ofNat 8 l.board.state.code] := by
  simp [State.reportBody, named, tab, n8]

theorem nth1_set {α : Type} {l : List α} {n : Nat} {x : α} (found : nth1 l n = some x) (y : α) :
    nth1 (l.set (n - 1) y) n = some y := by
  rw [← modify1_eq_set found fun _ => y, nth1_modify1, if_pos rfl, found, Option.map_some]

/-- The answer to a report on a board that has changed shows its tab and its state. -/
theorem State.BoardChanged.reportBody {t : State} {h : Board → Board} (changed : s.BoardChanged t l.record l.index h)
    (named : s.locateId { serial := g.serial, board := g.board } = some l) {x : TabState}
    (tab : nth1 (h l.board).tabs g.tab = some x) :
    t.reportBody g = [BitVec.ofNat 8 x.code, BitVec.ofNat 8 (h l.board).state.code] := by
  obtain ⟨p, after, -⟩ := changed.locateId named rfl rfl
  exact State.reportBody_of after tab

end

/-- A change of a board is one from every part with the same panel table. -/
theorem State.BoardChanged.of_panels {s d t : State} {i : Fin 4} {b : Nat} {f : Board → Board}
    (h : d.BoardChanged t i b f) (panels : d.panels = s.panels) : s.BoardChanged t i b f := by
  intro j
  rw [← panels]
  exact h j

theorem CutFollows.of_same {s d t : State} {l : Located} {hold : Bool} (follows : CutFollows d t l hold)
    (gripper : d.gripper = s.gripper) (fault : d.fault .boardDropped = s.fault .boardDropped) :
    CutFollows s t l hold := by
  rw [CutFollows, gripper, fault] at follows
  exact follows

/-! ### CUT_DONE -/

theorem State.cutDone_eq (s : State) (g : Grant) :
    s.cutDone g = (s.charged g.cutLength).settleCut g fun t l => t.cutTab l g.tab := rfl

theorem State.cutDone_charges (s : State) (g : Grant) :
    OldestLeaves s (commit s (s.cutDone g)) ∧ BitCharged s (commit s (s.cutDone g)) g.cutLength := by
  rw [State.cutDone_eq]
  rcases (s.charged g.cutLength).settleCut_cases g fun t l => t.cutTab l g.tab with eq | ⟨l, eq⟩
  · rw [eq]
    exact report_charges (.of_scheduler rfl) rfl rfl
  · rw [eq]
    exact report_charges (State.cutTab_window _ l g.tab) (by simp) (State.cutTab_fault_ne _ l g.tab (by decide))

/-- Settles O33, by what the charge leaves of the window and the bit and by what the cut makes of the board. -/
theorem cutDoneAccountsTheCut : Obligations.CutDoneAccountsTheCut := by
  intro s p tag g rest reaches window own
  obtain ⟨leaves, charges⟩ := s.cutDone_charges g
  refine ⟨commit s (s.cutDone g), (commit s (s.cutDone g)).reportBody g,
    answers_of_handler reaches rfl (State.reported_oldest window own), leaves, charges, by simp, by simp, by simp,
    fun l named x stands => ⟨fun abandoned => ?_, fun living => ?_⟩⟩
  all_goals
    have located : (s.charged g.cutLength).locateId { serial := g.serial, board := g.board } = some l :=
      (State.locateId_of_panels (by simp) _).trans named
  · have unchanged : s.cutDone g = s.charged g.cutLength := State.settleCut_abandoned located abandoned
    have panels : (commit s (s.cutDone g)).panels = s.panels := by simp [unchanged]
    refine ⟨panels, ?_, by rw [commit_queue]; simp [unchanged], by simp [unchanged]⟩
    rw [State.reportBody_of ((State.locateId_of_panels panels _).trans named) stands, abandoned]
    rfl
  · have found := State.locate_of_id located
    have eq : s.cutDone g = (s.charged g.cutLength).cutTab l g.tab := State.settleCut_living located living
    have hold : (s.charged g.cutLength).isHold l.panel l.index g.tab = s.isHold l.panel l.index g.tab := by
      simp [State.isHold, State.tabDef, State.recipeOf]
    obtain ⟨f, review, changed, cut, suspect⟩ := State.cutTab_board found stands
    have follows := ((s.charged g.cutLength).cutTab_follows l g.tab).commit s
    rw [← eq] at changed follows
    rw [hold] at cut follows
    have after := State.BoardChanged.of_panels (changed.commit s) (s.charged_frame g.cutLength).2.1
    obtain ⟨board, elsewhere⟩ := after.boards (State.boardAt_of_locate (State.locate_of_id named))
    have tab : nth1 (f l.board).tabs g.tab = some .cut := by
      rw [cut]
      exact nth1_set stands _
    have body := after.reportBody named tab
    rw [cut] at board body
    exact ⟨body, ⟨review, board, suspect⟩, elsewhere,
      follows.of_same (by simp) (State.charged_fault_ne s g.cutLength (by decide))⟩

end Sys2Proof.Machine

/-! PROOFS. CUT_ABORT and the expiry of a grant (R39, R40). -/

namespace Sys2Proof.Machine

open Sys2Proof

/-! ### CUT_ABORT -/

theorem State.cutAbort_eq (s : State) (g : Grant) (n : Nat) :
    s.cutAbort g n = (s.charged n).settleCut g fun t l => t.setTab l.record l.index g.tab .uncut := rfl

theorem State.cutAbort_charges (s : State) (g : Grant) (n : Nat) :
    OldestLeaves s (commit s (s.cutAbort g n)) ∧ BitCharged s (commit s (s.cutAbort g n)) n := by
  rw [State.cutAbort_eq]
  rcases (s.charged n).settleCut_cases g fun t l => t.setTab l.record l.index g.tab .uncut with eq | ⟨l, eq⟩
  · rw [eq]
    exact report_charges (.of_scheduler rfl) rfl rfl
  · rw [eq]
    exact report_charges (.of_scheduler (by simp)) (by simp) (State.fault_of_faults (by simp) _)

theorem cutAbortReturnsTheTab : Says.CutAbortReturnsTheTab := by
  intro s p tag len g rest reaches window own n
  obtain ⟨leaves, charges⟩ := s.cutAbort_charges g n
  refine ⟨commit s (s.cutAbort g n), (commit s (s.cutAbort g n)).reportBody g,
    answers_of_handler reaches rfl (State.reported_oldest window own), leaves, charges, by simp, by simp, by simp,
    by rw [commit_queue]; simp, by simp, fun l named x stands => ⟨fun abandoned => ?_, fun living => ?_⟩⟩
  all_goals
    have located : (s.charged n).locateId { serial := g.serial, board := g.board } = some l :=
      (State.locateId_of_panels (by simp) _).trans named
  · have unchanged : s.cutAbort g n = s.charged n := State.settleCut_abandoned located abandoned
    have panels : (commit s (s.cutAbort g n)).panels = s.panels := by simp [unchanged]
    refine ⟨panels, ?_⟩
    rw [State.reportBody_of ((State.locateId_of_panels panels _).trans named) stands, abandoned]
    rfl
  · have found := State.locate_of_id located
    have eq : s.cutAbort g n = (s.charged n).setTab l.record l.index g.tab .uncut := State.settleCut_living located living
    obtain ⟨review, marked, -⟩ := State.tabbed_review (s := s.charged n) stands .uncut
    have changed := ((State.BoardChanged.refl (s.charged n) l.record l.index).setTab found g.tab .uncut).commit s
    rw [← eq] at changed
    have after := State.BoardChanged.of_panels changed (s.charged_frame n).2.1
    obtain ⟨board, elsewhere⟩ := after.boards (State.boardAt_of_locate (State.locate_of_id named))
    have tab : nth1 (((s.charged n).tabbed l g.tab .uncut ∘ id) l.board).tabs g.tab = some .uncut := by
      rw [Function.comp_apply, id, marked]
      exact nth1_set stands _
    have body := after.reportBody named tab
    rw [Function.comp_apply, id, marked] at board body
    exact ⟨body, ⟨review, board⟩, elsewhere⟩

/-- Settles O34, by the place of the tag in the window and by what the charge and the returned tab change. -/
theorem reportsAndCutAbort : Obligations.ReportsAndCutAbort :=
  ⟨reportsAreCheckedAgainstTheWindow, cutAbortReturnsTheTab⟩

/-! ### The expiry of the oldest grant -/

/-- The part without its oldest grant, whose tab is SUSPECT (R40). -/
def State.suspected (s : State) (g : Grant) : State :=
  match s.dropOldest.locateId { serial := g.serial, board := g.board } with
  | some l => s.dropOldest.setTab l.record l.index g.tab .suspect
  | none => s.dropOldest

theorem State.expire_eq (s : State) (g : Grant) :
    s.expire g = ((s.suspected g).post .cell .reviewNeeded).raise .grantExpired := rfl

theorem State.suspected_of {s : State} {g : Grant} {l : Located}
    (named : s.locateId { serial := g.serial, board := g.board } = some l) :
    s.suspected g = s.dropOldest.setTab l.record l.index g.tab .suspect := by
  have located : s.dropOldest.locateId { serial := g.serial, board := g.board } = some l :=
    (State.locateId_of_panels (by simp) _).trans named
  simp [State.suspected, located]

theorem State.suspected_blocks (s : State) (g : Grant) :
    (s.suspected g).scheduler = s.dropOldest.scheduler ∧ (s.suspected g).cell = s.cell := by
  unfold State.suspected
  split <;> simp

theorem exec_grantExpiry {s : State} (up : s.starting = false) {g : Grant} {rest : List Grant} {x : Timer}
    (window : s.scheduler.window = g :: rest) (expiry : s.scheduler.expiry = some x) :
    exec .grantExpiry s = .next (commit s (s.expire g)) := by
  have runs : exec .grantExpiry s = .next (commit s _) := congrArg Host.Outcome.next (State.event_up s _ up)
  rw [runs, window, expiry]

theorem exec_grantExpiry_idle {s : State} (up : s.starting = false)
    (idle : s.scheduler.window = [] ∨ s.scheduler.expiry = none) : exec .grantExpiry s = .next s.storeBegin := by
  have runs : exec .grantExpiry s = .next (commit s _) := congrArg Host.Outcome.next (State.event_up s _ up)
  rw [runs]
  rcases idle with window | expiry
  · cases expiry : s.scheduler.expiry <;> simp [window, commit_self]
  · cases window : s.scheduler.window <;> simp [expiry, commit_self]

/-- Settles O35, by the SUSPECT tab and the raise after it. -/
theorem grantExpiryMakesTheTabSuspect : Obligations.GrantExpiryMakesTheTabSuspect := by
  intro s up
  refine ⟨exec_grantExpiry_idle up, fun g rest x window expiry => ?_⟩
  obtain ⟨scheduler, cell⟩ := s.suspected_blocks g
  have told : ((s.suspected g).post .cell .reviewNeeded).Posts (commit s (s.expire g)) :=
    ((State.Posts.refl _).raise .grantExpired).commit s
  have leaves : s.dropOldest.SameWindow (commit s (s.expire g)) :=
    .trans (.of_scheduler (t := (s.suspected g).post .cell .reviewNeeded) (by simpa using scheduler))
      ((State.SameWindow.raise _ .grantExpired).trans (.of_scheduler (by simp [State.expire_eq])))
  have table : ((s.suspected g).post .cell .reviewNeeded).fault .grantExpired = s.fault .grantExpired :=
    State.fault_of_faults (by simp [cell]) _
  refine ⟨commit s (s.expire g), exec_grantExpiry up window expiry, .of_same leaves, told.posted (by decide), fun on => ?_,
    by simp, by simp, by simp, by simp, by rw [commit_queue]; simp, by simp, fun l y named stands => ?_⟩
  · rw [← table] at on
    have fault : (commit s (s.expire g)).fault .grantExpired = (s.expire g).fault .grantExpired :=
      State.fault_of_faults (by simp) _
    refine ⟨?_, commit_keepsPending _ _ _ _ (State.raise_posts _ on)⟩
    rw [fault, State.expire_eq, (State.raise_enabled _ on).1, table]
    rfl
  · have located : s.dropOldest.locateId { serial := g.serial, board := g.board } = some l :=
      (State.locateId_of_panels (by simp) _).trans named
    have found := State.locate_of_id located
    obtain ⟨review, marked, suspect⟩ := State.tabbed_review (s := s.dropOldest) stands .suspect
    obtain rfl := suspect.mpr (mem_set_of_nth1 stands _)
    have changed := (State.BoardChanged.refl s.dropOldest l.record l.index).setTab found g.tab .suspect
    rw [← State.suspected_of named] at changed
    have after := State.BoardChanged.of_panels (s := s)
      (changed.same (u := commit s (s.expire g)) (by simp [State.expire_eq])) (by simp)
    obtain ⟨board, elsewhere⟩ := after.boards (State.boardAt_of_locate (State.locate_of_id named))
    rw [Function.comp_apply, id, marked] at board
    exact ⟨board, elsewhere⟩

end Sys2Proof.Machine
